-- ==== Sys2Proof/Word.lean ====
section
/-! DEFINITION. Bytes, words and groups of four: the units of the two ports (01_the_frame_link_and_request_routing.md 1.2).
A beat is four lanes and a lane four bytes, so a beat of anything is a group of four groups of four. -/

namespace Sys2Proof

abbrev Byte := BitVec 8

/-- A 32-bit word of a control record (R174). -/
abbrev Word := BitVec 32

/-- Four like things in ascending address order: the four lanes of a beat, or the four bytes R, G, B and pad of a lane. -/
structure Quad (α : Type) where
  e0 : α
  e1 : α
  e2 : α
  e3 : α
  deriving DecidableEq, Repr

namespace Quad

def replicate {α : Type} (a : α) : Quad α := ⟨a, a, a, a⟩

/-- The element at place k; a place above 3 is place 3. -/
def get {α : Type} (q : Quad α) : Nat → α
  | 0 => q.e0
  | 1 => q.e1
  | 2 => q.e2
  | _ => q.e3

def set {α : Type} (q : Quad α) (k : Nat) (a : α) : Quad α :=
  match k with
  | 0 => { q with e0 := a }
  | 1 => { q with e1 := a }
  | 2 => { q with e2 := a }
  | _ => { q with e3 := a }

def ofFn {α : Type} (f : Nat → α) : Quad α := ⟨f 0, f 1, f 2, f 3⟩

def map {α β : Type} (f : α → β) (q : Quad α) : Quad β := ⟨f q.e0, f q.e1, f q.e2, f q.e3⟩

def zipWith {α β γ : Type} (f : α → β → γ) (p : Quad α) (q : Quad β) : Quad γ :=
  ⟨f p.e0 q.e0, f p.e1 q.e1, f p.e2 q.e2, f p.e3 q.e3⟩

def toList {α : Type} (q : Quad α) : List α := [q.e0, q.e1, q.e2, q.e3]

def all {α : Type} (f : α → Bool) (q : Quad α) : Bool := f q.e0 && f q.e1 && f q.e2 && f q.e3

def any {α : Type} (f : α → Bool) (q : Quad α) : Bool := f q.e0 || f q.e1 || f q.e2 || f q.e3

end Quad

/-- A lane of a write: each byte that is enabled, `none` where the enable is clear. -/
abbrev MaskedLane := Quad (Option Byte)

/-- A beat of a write. -/
abbrev MaskedBeat := Quad MaskedLane

/-- A beat of a read request: its 16 byte enables. -/
abbrev EnableBeat := Quad (Quad Bool)

/-- A beat of data, all 16 bytes. -/
abbrev DataBeat := Quad (Quad Byte)

/-- A colour: R, G, B and the pad byte (11.1). -/
abbrev Colour := Quad Byte

end Sys2Proof
end

