-- ==== Sys2Proof/Syntax.lean ====
section
/-! DEFINITION. The commands of the part: one constructor per row of spec/opcode_table.json. Each command is one step of the
part, whole and indivisible (95_what_each_step_holds.md). -/

namespace Sys2Proof

/-- What a burst carries: for a write its beats with enables and data, for a read the enables of each beat (R1). -/
inductive Payload where
  | write (beats : List MaskedBeat)
  | read (beats : List EnableBeat)
  deriving DecidableEq, Repr

/-- One burst offered on the upstream port (1.2): the link carries the start address as a beat address. -/
structure Request where
  beatAddress : BitVec 28
  payload : Payload
  deriving DecidableEq, Repr

inductive Instr where
  /-- R15, R3: power-on reset asserted, with the levels of the two straps. -/
  | powerOnReset (strap1 strap0 : Bool)
  /-- R12, R131: power-on reset released. -/
  | powerOnResetRelease
  /-- R16: link reset asserted. -/
  | linkReset
  /-- R12: link reset released. -/
  | linkResetRelease
  /-- R12: the settle count expires. -/
  | settleEnd
  /-- R13: the sleep request line rises. -/
  | sleepRequestRise
  /-- R13, R14: the sleep request line falls. -/
  | sleepRequestFall
  /-- R13: the front end finds the drain condition met. -/
  | drainCondition
  /-- R1: a request is offered on the upstream port. -/
  | accept (request : Request)
  /-- R6: the router takes the head of the inbound queue. -/
  | routerTake
  /-- R8, R9: the router places its pass piece. -/
  | passSegmentPlace
  /-- R53: the translator places the straight segment in hand. -/
  | straightSegmentPlace
  /-- R80 to R82: the translator hands the insert in hand to the collector. -/
  | collectorInsert
  /-- R60: the translator places the read segment it holds free of hazards. -/
  | translatedReadSegmentPlace
  /-- R150: memory finishes the burst in flight. -/
  | burstComplete
  /-- R154: memory returns one beat; the operand is what memory holds in bytes the part has never written. -/
  | readDataReturn (beat : DataBeat)
  /-- R27: the layout table offers the HEAD fetch. -/
  | headFetchOffer
  /-- R84: the age timer expires. -/
  | ageTick
  /-- R105: the frame-sync line falls. -/
  | blankStart
  /-- R106: the frame-sync line rises. -/
  | frameStart
  /-- R98: the scan-stopped timer expires. -/
  | scanStopped
  /-- R108: the swap limit timer expires. -/
  | swapLimit
  /-- R119: the sample timer expires. -/
  | sampleTimer
  /-- R120: the sensor read in progress ends: whether the address was acknowledged, and the two bytes. -/
  | sensorRead (acknowledged : Bool) (first second : Byte)
  /-- R120: the 2 ms time-out of the sensor read in progress expires. -/
  | i2cTimeout
  /-- R129: the closed-latch line rises. -/
  | latchRise
  /-- R130: the closed-latch line falls. -/
  | latchFall
  /-- R138: the fill engine takes up its head job. -/
  | fillJobStart
  /-- R26: a LOAD control record reaches the decoder: its check word and operand words (R174). -/
  | load (check slot offset : Word)
  /-- R42. -/
  | unload (check slot : Word)
  /-- R101. -/
  | bind (check slot plane flag : Word)
  /-- R102. -/
  | unbind (check plane : Word)
  /-- R103. -/
  | commit (check : Word)
  /-- R109. -/
  | cancel (check : Word)
  /-- R145. -/
  | fill (check plane x y width height colour : Word)
  /-- R134. -/
  | setMap (check closed partly opened : Word)
  /-- R132. -/
  | setTracker (check closedEnter closedExit openExit openEnter dwell limit offset0 offset1 period : Word)
  /-- R164. -/
  | setPath (check highWater settle age swapLimit mask : Word)
  /-- R165. -/
  | ack (check mask clear : Word)
  /-- R166. -/
  | reset (check : Word)
  /-- R163: a control record whose command word is no command. -/
  | badCommand (command check : Word)
  deriving DecidableEq, Repr

end Sys2Proof
end

