-- ==== Sys2Proof/Decode.lean ====
section
/-! DEFINITION. The opcode table gives no row any bits (98_reader.md: "n_rows_with_fixed": 0), so no word spells a command. -/

namespace Sys2Proof

/-- The command that a word spells by the table's bits: none of the 41 rows gives bits. -/
def decodeTableWord (_nbits _w : Nat) : Option Instr := none

end Sys2Proof
end

