-- ==== Sys2Proof/Config.lean ====
section
/-! DEFINITION. The figures the spec fixes for the part (00_scope.md section 7) and the free values: the choices the spec leaves
open, as constants with no body, each applied to the counter `freeCount` of State. -/

namespace Sys2Proof.Config

/-- Panel columns and rows (R49). -/
def panelColumns : Nat := 2400
def panelRows : Nat := 1800

/-- Row pitch of a plane's physical region (R49). -/
def rowPitch : Nat := 9600

/-- Aperture size in bytes (R3). -/
def apertureBytes : Nat := 33554432

/-- Offset of the descriptor area from FB (R3), of the status record in it (R152), and its size. -/
def descriptorOffset : Nat := 0x4000000
def statusOffset : Nat := 0x100
def descriptorBytes : Nat := 0x10000

/-- Size of the frame range (R3). -/
def frameRangeBytes : Nat := 0x8000000

/-- Capacities (00_scope.md section 7): inbound queue, output queue, entry table, each flush queue, fill queue. -/
def inboundPlaces : Nat := 32
def outputPlaces : Nat := 16
def tablePlaces : Nat := 256
def flushPlaces : Nat := 16
def fillPlaces : Nat := 4

/-- Top of a 16-bit counter (R169). -/
def counterTop : Nat := 65535

/-- The fixed 50 ms of the scan-stopped timer (R98). -/
def scanStoppedMs : Nat := 50

/-- Free value (R153, log 6): whether an offer of a source that begins to stand at a completion is seen at that choice point.
Sources are numbered as `Source.number` numbers them. -/
opaque offerSeen : Nat → Nat → Bool

/-- Free value (R152, log 8): of a fetch and a record write whose offers begin in one step, whether the fetch goes first. -/
opaque fetchOfferedFirst : Nat → Bool

/-- Free value (R9, R17, R153, log 7): whether the choice point made by the placement of a mailbox segment comes before the
decoder's acts at the same moment. -/
opaque placementFirst : Nat → Bool

/-- Free value (R150, log 10): how many beats of a write burst memory had taken when power-on reset was asserted; a step bounds
it by the burst's length. -/
opaque beatsTaken : Nat → Nat

end Sys2Proof.Config
end

