-- ==== Sys2Proof/Machine/State.lean ====
section
/-! DEFINITION. The state of the part, block by block, as plain data; the state after power-on reset; the reasons to stop. -/

namespace Sys2Proof.Machine

/-- The part has no fault: no rule of the spec stops it, so no step ends in one. -/
inductive Fault where
  deriving DecidableEq, Repr

/-- `notModelled` would be answered by an arm of `exec` whose row has no meaning yet; no arm answers it. Safe. -/
inductive Refusal where
  | notModelled (mnemonic : String)
  deriving DecidableEq, Repr

/-! ### Pins and link front end -/

/-- Levels of the input lines (00_scope.md section 2). The straps are sampled into `FrontEnd`. -/
structure Pins where
  powerOnReset : Bool
  linkReset : Bool
  sleepRequest : Bool
  frameSync : Bool
  closedLatch : Bool
  deriving DecidableEq, Repr

/-- The link states (1.7). -/
inductive LinkState where
  | resetHold
  | settle
  | awake
  | sleepDrain
  | asleep
  deriving DecidableEq, Repr

structure FrontEnd where
  link : LinkState
  /-- The sampled base straps, which fix FB (R3). -/
  strap1 : Bool
  strap0 : Bool
  /-- In units of 20 µs (R12). -/
  settleSetting : Nat
  /-- The settle time being counted, in µs, or none while it is not counted (R12). -/
  settleTimer : Option Nat
  highWater : Nat
  deriving DecidableEq, Repr

/-! ### Planes and layouts -/

inductive Plane where
  | A
  | B
  deriving DecidableEq, Repr

inductive Rotation where
  | r0
  | r90
  | r180
  | r270
  deriving DecidableEq, Repr

/-- A view record (R19). -/
structure View where
  number : Nat
  rotation : Rotation
  mirror : Bool
  base : Nat
  wv : Nat
  hv : Nat
  sv : Nat
  x0 : Nat
  y0 : Nat
  deriving DecidableEq, Repr

/-- A spine record (R20): the knot count is the length of `knots`. -/
structure Spine where
  start : Nat
  width : Nat
  knots : List Nat
  deriving DecidableEq, Repr

/-- A rectangle of the panel, column first. -/
structure Rect where
  x : Nat
  y : Nat
  width : Nat
  height : Nat
  deriving DecidableEq, Repr

/-- A posture the handset can settle in. UNKNOWN is the absence of one. -/
inductive Posture where
  | CLOSED
  | PARTIAL
  | OPEN
  deriving DecidableEq, Repr

/-- A guard record (R21): the rectangle count is the length of `rects`. -/
structure Guard where
  colour : Colour
  onClosed : Bool
  onPartial : Bool
  onOpen : Bool
  rects : List Rect
  deriving DecidableEq, Repr

/-- An installed layout (R18). -/
structure Layout where
  tag : Nat
  background : Colour
  views : List View
  spine : Option Spine
  guard : Option Guard
  deriving DecidableEq, Repr

/-- A slot (R22). LOADING remembers the layout the slot held if it was READY. -/
inductive Slot where
  | empty
  | loading (remembered : Option Layout)
  | ready (layout : Layout)
  deriving DecidableEq, Repr

/-- The kinds of chain record (R29). -/
inductive RecordKind where
  | head
  | view
  | spine
  | guard
  deriving DecidableEq, Repr

/-- The HEAD fields (R32). -/
structure HeadRecord where
  tag : Nat
  background : Colour
  declared : Nat
  deriving DecidableEq, Repr

/-- The staging copy (2.6): six view places, one for each view number, and a count for each kind. -/
structure Staging where
  head : Option HeadRecord
  views : List (Option View)
  viewCount : Nat
  spine : Option Spine
  spineCount : Nat
  guard : Option Guard
  guardCount : Nat
  deriving DecidableEq, Repr

/-- Where the chain fetch of a load stands (R27, R28). -/
inductive FetchPhase where
  /-- The HEAD fetch waits for the mailbox outstanding indication. -/
  | waiting
  | offered
  | inFlight
  deriving DecidableEq, Repr

/-- A load in progress: the chain cursor (offset, kind, records fetched), the staging copy, the fetch and its data so far. -/
structure Load where
  slot : Fin 8
  offset : Nat
  kind : RecordKind
  fetched : Nat
  staging : Staging
  phase : FetchPhase
  data : List DataBeat
  deriving DecidableEq, Repr

structure LayoutTable where
  slots : Vector Slot 8
  load : Option Load
  deriving DecidableEq, Repr

/-- An entry of the plane table (R95); the role is held once, in `Planes.scanned`. -/
structure PlaneEntry where
  binding : Option (Fin 8)
  backgroundPending : Bool
  deriving DecidableEq, Repr

inductive ArmCause where
  | host
  | auto
  deriving DecidableEq, Repr

/-- The record of an armed swap (R100). `commit` names the commit time; `limit` is the swap limit it was armed with (R108);
`collectorWaiting` and `pathWaiting` are the collector and request-path parts of the drain snapshot still to be written (R104).
The background part is the target's background-pending mark. -/
structure ArmRecord where
  cause : ArmCause
  target : Plane
  commit : Nat
  limit : Nat
  collectorWaiting : Bool
  pathWaiting : List Nat
  selectMoved : Bool
  deriving DecidableEq, Repr

inductive Switch where
  | steady
  | armed (record : ArmRecord)
  deriving DecidableEq, Repr

structure Planes where
  a : PlaneEntry
  b : PlaneEntry
  scanned : Plane
  select : Plane
  switch : Switch
  swapLimit : Nat
  deriving DecidableEq, Repr

/-- The frame timing monitor (R97, R98); `scanTimer` is the interval the timer counts, or none when it does not run. -/
structure FrameMonitor where
  counter : BitVec 16
  scanStopped : Bool
  scanTimer : Option Nat
  deriving DecidableEq, Repr

/-! ### Requests, segments and the translator -/

/-- The regions of R3. -/
inductive Region where
  | below
  | aperture (plane : Plane)
  | descriptor
  | direct
  | above
  deriving DecidableEq, Repr

/-- The part of a request in one region (R7): `first` is the place of its first beat in the request. -/
structure Piece where
  region : Region
  addr : Nat
  payload : Payload
  first : Nat
  deriving DecidableEq, Repr

/-- The request in translation (R6) with the pieces not yet handed on, the first being worked on, and for a read the response
entry it answers. -/
structure RouterHold where
  request : Request
  pieces : List Piece
  response : Option Nat
  deriving DecidableEq, Repr

/-- What made a segment of the output queue (R10): a pass read carries the response entry and the beat it starts at, a
translated read its place in the read plan. -/
inductive SegmentKind where
  | pass (reply : Option (Nat × Nat))
  | straight (plane : Plane)
  | translated (index : Nat)
  deriving DecidableEq, Repr

structure Segment where
  id : Nat
  kind : SegmentKind
  addr : Nat
  payload : Payload
  deriving DecidableEq, Repr

/-- An entry of the response list (R11): a beat is `some` when its 16 bytes are complete; `sent` beats have gone upstream. -/
structure Response where
  id : Nat
  beats : List (Option DataBeat)
  sent : Nat
  deriving DecidableEq, Repr

/-- An IN-VIEW lane at its panel position (R48). -/
structure PlacedLane where
  x : Nat
  y : Nat
  bytes : MaskedLane
  deriving DecidableEq, Repr

/-- What the translator has still to do for the lanes of a write piece, in order (R51): count an orphan or a padding lane, make
the segment of a row run, or make the insert of one lane of a turned view. -/
inductive LaneStep where
  | orphan
  | padding
  | run (view row : Nat) (lanes : List PlacedLane)
  | turned (lane : PlacedLane)
  deriving DecidableEq, Repr

/-- A collector entry's key (R77): plane and beat address. -/
structure Key where
  plane : Plane
  beat : Nat
  deriving DecidableEq, Repr

/-- One insert (5.1), its bytes already gained. `shared` says that its beat holds pixels of another view too (R54, R83, log 31). -/
structure Insert where
  key : Key
  lane : Nat
  bytes : MaskedLane
  shared : Bool
  deriving DecidableEq, Repr

/-- What the translator has in hand in WRITING: a straight segment not yet placed (R53), or an insert not yet taken, `waiting`
once the collector has turned it away (R82). -/
inductive Hand where
  | segment (addr : Nat) (beats : List MaskedBeat)
  | insert (insert : Insert) (waiting : Bool)
  deriving DecidableEq, Repr

structure WriteJob where
  plane : Plane
  layout : Option Layout
  todo : List LaneStep
  hand : Hand
  deriving DecidableEq, Repr

/-- A segment of the read plan (R58, R59). -/
structure PlanSegment where
  index : Nat
  addr : Nat
  beats : List EnableBeat
  deriving DecidableEq, Repr

/-- The assembly map's word on one upstream lane: filled, or to be filled from a beat and lane of a planned segment, with the
lane's enables. -/
inductive LaneSource where
  | filled (bytes : Quad Byte)
  | awaits (segment beat lane : Nat) (enables : Quad Bool)
  deriving DecidableEq, Repr

structure ReadJob where
  plane : Plane
  layout : Option Layout
  response : Nat
  first : Nat
  plan : List PlanSegment
  assembly : List (Quad LaneSource)
  deriving DecidableEq, Repr

/-- The states of the address translator (R43). In `readIssue` the head of the plan has been asked about and meets no hazard;
`readHeld` names the matched writes not yet written. -/
inductive Translator where
  | idle
  | writing (job : WriteJob)
  | readIssue (job : ReadJob)
  | readHeld (job : ReadJob) (matched : List Nat)
  | readWait (job : ReadJob)
  deriving DecidableEq, Repr

/-! ### The rotation collector -/

/-- R78. -/
inductive FlushState where
  | held
  | ordinaryWaiting
  | priorityWaiting
  deriving DecidableEq, Repr

/-- A collector entry (R77): data and enables together, `none` where the enable is clear. -/
structure Entry where
  id : Nat
  key : Key
  data : MaskedBeat
  age : Nat
  flush : FlushState
  deriving DecidableEq, Repr

/-- A flush write (R79). It keeps the name of the entry it was made from. -/
structure FlushWrite where
  id : Nat
  key : Key
  data : MaskedBeat
  deriving DecidableEq, Repr

/-- A waiting priority request (R87): the writes it has still to move, in order. -/
structure PriorityRequest where
  key : Key
  moves : List Nat
  deriving DecidableEq, Repr

/-- A drain set (R89): the commit it serves and its writes not yet written. -/
structure DrainSet where
  commit : Nat
  unwritten : List Nat
  deriving DecidableEq, Repr

structure Collector where
  /-- Oldest first. -/
  table : List Entry
  ordinary : List FlushWrite
  priority : List FlushWrite
  /-- The ORDINARY-WAITING entries in the order their flushes were asked (R86). -/
  asked : List Nat
  requests : List PriorityRequest
  drains : List DrainSet
  ageInterval : Nat
  /-- The interval the age timer counts, in ms, or none while it is stopped (R84). -/
  ageTimer : Option Nat
  deriving DecidableEq, Repr

/-! ### The fold tracker -/

/-- A sensor channel (R118). -/
structure Sensor where
  good : Bool
  misses : Nat
  goods : Nat
  offset : Int
  deriving DecidableEq, Repr

inductive PairState where
  | agree
  | disagree
  deriving DecidableEq, Repr

inductive TrackerMode where
  | acquire
  | dual
  | single
  | held
  deriving DecidableEq, Repr

/-- The sample in progress (R119): none, reading sensor 0, or reading sensor 1 with the outcome of sensor 0, a code or a miss. -/
inductive Sample where
  | none
  | reading0
  | reading1 (outcome0 : Option Nat)
  deriving DecidableEq, Repr

structure PostureMap where
  closed : Option (Fin 8)
  partly : Option (Fin 8)
  opened : Option (Fin 8)
  deriving DecidableEq, Repr

structure Tracker where
  sensor0 : Sensor
  sensor1 : Sensor
  pair : PairState
  disagreeing : Nat
  agreeing : Nat
  mode : TrackerMode
  lastFused : Option Nat
  /-- The settled posture; none is UNKNOWN. -/
  settled : Option Posture
  /-- The pending candidate with its count. -/
  candidate : Option (Posture × Nat)
  closedEnter : Nat
  closedExit : Nat
  openExit : Nat
  openEnter : Nat
  dwell : Nat
  agreementLimit : Nat
  period : Nat
  map : PostureMap
  /-- The period the sample timer counts, in ms, or none before it starts (R119). -/
  sampleTimer : Option Nat
  sample : Sample
  deriving DecidableEq, Repr

/-! ### The fill engine -/

inductive JobKind where
  | background
  | guard
  | host
  deriving DecidableEq, Repr

/-- The place of the next fill burst (8.1): rectangle index, panel row and beat. -/
structure Cursor where
  rect : Nat
  row : Nat
  beat : Nat
  deriving DecidableEq, Repr

/-- A fill job (R137). `holes` are the view rectangles a BACKGROUND job leaves out (R139). A job that has not started has no
cursor; a BACKGROUND or GUARD job then has no colour and no rectangles yet. -/
structure FillJob where
  plane : Plane
  kind : JobKind
  rects : List Rect
  holes : List Rect
  colour : Option Colour
  cursor : Option Cursor
  beatsWritten : Nat
  deriving DecidableEq, Repr

/-- The burst in hand (R142), `granted` once it is in flight, `cancelled` once its job has been cancelled (R147, R148). -/
structure FillBurst where
  addr : Nat
  beats : List MaskedBeat
  granted : Bool
  cancelled : Bool
  deriving DecidableEq, Repr

structure FillEngine where
  jobs : List FillJob
  burst : Option FillBurst
  paused : Bool
  /-- A pause asked that waits for the burst in hand to be written (R149). -/
  pauseAsked : Bool
  deriving DecidableEq, Repr

/-! ### Port and arbiter -/

/-- Who the burst in flight belongs to, with what its completion is reported about (R154). -/
inductive Origin where
  | fetch
  | record
  | priority (id : Nat) (key : Key)
  | path (id : Nat) (kind : SegmentKind)
  | ordinary (id : Nat) (key : Key)
  | fill
  deriving DecidableEq, Repr

/-- The burst in flight (R150). `wanted` is false once its source's request has been discarded (R154). -/
structure Flight where
  origin : Origin
  addr : Nat
  payload : Payload
  moved : Nat
  wanted : Bool
  deriving DecidableEq, Repr

/-- The sources of the ring (R153). -/
inductive Ring where
  | path
  | ordinary
  | fill
  deriving DecidableEq, Repr

/-! ### Mailbox decoder and status writer -/

/-- The result codes (11.5). -/
inductive Result where
  | ok
  | clamped
  | badCommand
  | badSlot
  | badPlane
  | inUse
  | inScan
  | notReady
  | planeBound
  | noTarget
  | state
  | full
  | noLayout
  | badValue
  | chainRange
  | chainLong
  | badRecord
  | badView
  | overlap
  | badSpine
  | badGuard
  | aborted
  deriving DecidableEq, Repr

structure Decoder where
  busy : Bool
  lastCommand : Byte
  lastResult : Result
  taken : BitVec 16
  deriving DecidableEq, Repr

/-- The eight counters (R169). -/
structure Counters where
  orphan : Nat
  padding : Nat
  saturation : Nat
  eviction : Nat
  clampedSamples : Nat
  lateSwaps : Nat
  abandonedSwaps : Nat
  rejectedRecords : Nat
  deriving DecidableEq, Repr

/-- The record write state (R171). -/
inductive RecordWrite where
  | quiet
  | due
  | offered
  | writing
  | writingDue
  deriving DecidableEq, Repr

structure StatusWriter where
  /-- Event flags, one bit each in the numbering of 11.5. -/
  flags : BitVec 14
  /-- The event enable mask. -/
  mask : BitVec 14
  counters : Counters
  write : RecordWrite
  deriving DecidableEq, Repr

/-- The bytes the part has written to the attached memory, by rising address. -/
abbrev Memory := List Host.Cell

structure State where
  pins : Pins
  front : FrontEnd
  /-- The inbound queue, head first (R4). -/
  inbound : List Request
  router : Option RouterHold
  /-- The request-path output queue, head first (R10). -/
  outQueue : List Segment
  /-- The mailbox outstanding indication: set while it names the mailbox segment it waits for (R10). -/
  mailboxOutstanding : Option Nat
  /-- The response list, oldest first (R11). -/
  responses : List Response
  /-- The model's own: the beats put out on the upstream read return, oldest first. -/
  sentUpstream : List DataBeat
  translator : Translator
  collector : Collector
  layouts : LayoutTable
  planes : Planes
  frame : FrameMonitor
  tracker : Tracker
  fill : FillEngine
  /-- The downstream port: none is IDLE (R150). -/
  port : Option Flight
  /-- The round-robin pointer (R153). -/
  pointer : Ring
  /-- Of two standing control offers, whether the chain fetch was offered first (R152). -/
  fetchFirst : Bool
  decoder : Decoder
  status : StatusWriter
  mem : Memory
  /-- The model's own: the next name for an entry, segment, response entry or commit. -/
  nextId : Nat
  /-- The model's own: the counter the free values are applied to. -/
  freeCount : Nat
  /-- The commands waiting, first in first out. -/
  pending : List Instr
  deriving DecidableEq, Repr

/-! ### The power-on state -/

/-- The identity layout (R23). -/
def identityLayout : Layout where
  tag := 0
  background := Quad.replicate 0
  views := [{ number := 0, rotation := .r0, mirror := false, base := 0, wv := 2400, hv := 1800, sv := 9600, x0 := 0, y0 := 0 }]
  spine := none
  guard := none

def Collector.reset : Collector where
  table := []
  ordinary := []
  priority := []
  asked := []
  requests := []
  drains := []
  ageInterval := 8
  ageTimer := none

def Sensor.reset : Sensor where
  good := false
  misses := 0
  goods := 0
  offset := 0

/-- R118. -/
def Tracker.reset : Tracker where
  sensor0 := Sensor.reset
  sensor1 := Sensor.reset
  pair := .agree
  disagreeing := 0
  agreeing := 0
  mode := .acquire
  lastFused := none
  settled := none
  candidate := none
  closedEnter := 150
  closedExit := 230
  openExit := 1570
  openEnter := 1650
  dwell := 12
  agreementLimit := 60
  period := 5
  map := ⟨none, none, none⟩
  sampleTimer := none
  sample := .none

/-- R95, R99, R100, R108. -/
def Planes.reset : Planes where
  a := ⟨some 0, false⟩
  b := ⟨none, false⟩
  scanned := .A
  select := .A
  switch := .steady
  swapLimit := 100

def FillEngine.reset : FillEngine where
  jobs := []
  burst := none
  paused := false
  pauseAsked := false

def Counters.zero : Counters := ⟨0, 0, 0, 0, 0, 0, 0, 0⟩

/-- The part while power-on reset is asserted (R15, R23, R63, R92, R95, R118, R137, R150, R153, R160, R164, R169, R171), with
the values the log names: straps 0, 0 and the other input lines low. -/
def State.reset : State where
  pins := { powerOnReset := true, linkReset := false, sleepRequest := false, frameSync := false, closedLatch := false }
  front := { link := .resetHold, strap1 := false, strap0 := false, settleSetting := 50, settleTimer := none, highWater := 24 }
  inbound := []
  router := none
  outQueue := []
  mailboxOutstanding := none
  responses := []
  sentUpstream := []
  translator := .idle
  collector := Collector.reset
  layouts := { slots := #v[.ready identityLayout, .empty, .empty, .empty, .empty, .empty, .empty, .empty], load := none }
  planes := Planes.reset
  frame := { counter := 0, scanStopped := false, scanTimer := none }
  tracker := Tracker.reset
  fill := FillEngine.reset
  port := none
  pointer := .path
  fetchFirst := false
  decoder := { busy := false, lastCommand := 0, lastResult := .ok, taken := 0 }
  status := { flags := 1, mask := 0x3FFF, counters := Counters.zero, write := .due }
  mem := []
  nextId := 0
  freeCount := 0
  pending := []

end Sys2Proof.Machine
end

