-- ==== Sys2Proof/WellFormed.lean ====
section
/-! DEFINITION. Which commands can be presented to the part. -/

namespace Sys2Proof

def Payload.length : Payload → Nat
  | .write beats => beats.length
  | .read beats => beats.length

/-- A burst is 1 to 16 beats; the link cannot present any other (1.2). -/
def Request.wf (r : Request) : Bool := decide (1 ≤ r.payload.length) && decide (r.payload.length ≤ 16)

/-- The twelve command words: codes 0x01 to 0x0C with the upper three bytes zero (R161, R163). -/
def knownCommand (w : Word) : Bool := decide (1 ≤ w.toNat) && decide (w.toNat ≤ 12)

/-- A request has a length the link can carry; the BAD_COMMAND row is for a command word that is no command. -/
def Instr.wf : Instr → Bool
  | .accept r => r.wf
  | .badCommand w _ => !knownCommand w
  | .powerOnReset _ _ => true
  | .powerOnResetRelease => true
  | .linkReset => true
  | .linkResetRelease => true
  | .settleEnd => true
  | .sleepRequestRise => true
  | .sleepRequestFall => true
  | .drainCondition => true
  | .routerTake => true
  | .passSegmentPlace => true
  | .straightSegmentPlace => true
  | .collectorInsert => true
  | .translatedReadSegmentPlace => true
  | .burstComplete => true
  | .readDataReturn _ => true
  | .headFetchOffer => true
  | .ageTick => true
  | .blankStart => true
  | .frameStart => true
  | .scanStopped => true
  | .swapLimit => true
  | .sampleTimer => true
  | .sensorRead _ _ _ => true
  | .i2cTimeout => true
  | .latchRise => true
  | .latchFall => true
  | .fillJobStart => true
  | .load _ _ _ => true
  | .unload _ _ => true
  | .bind _ _ _ _ => true
  | .unbind _ _ => true
  | .commit _ => true
  | .cancel _ => true
  | .fill _ _ _ _ _ _ _ => true
  | .setMap _ _ _ _ => true
  | .setTracker _ _ _ _ _ _ _ _ _ _ => true
  | .setPath _ _ _ _ _ _ => true
  | .ack _ _ _ => true
  | .reset _ => true

end Sys2Proof
end

