-- ==== Sys2Proof/Machine/Ops.lean ====
section
/-! DEFINITION. Named operations over the attached memory, the frame range, the planes and slots, and the link state. -/

namespace Sys2Proof

/-! ### Bursts and requests -/

def Payload.isWrite : Payload → Bool
  | .write _ => true
  | .read _ => false

/-- The start address of a request: its beat address as a byte address (1.2). -/
def Request.addr (r : Request) : Nat := r.beatAddress.toNat * 16

/-- The first n beats of a payload, and the rest (R7). -/
def Payload.take (n : Nat) : Payload → Payload
  | .write beats => .write (beats.take n)
  | .read beats => .read (beats.take n)

def Payload.drop (n : Nat) : Payload → Payload
  | .write beats => .write (beats.drop n)
  | .read beats => .read (beats.drop n)

end Sys2Proof

namespace Sys2Proof.Machine

/-! ### The attached memory -/

namespace Memory

/-- Canonical form: addresses strictly rising. An unlisted address holds no byte, so no entry can equal what it reads as. -/
def wf : Memory → Bool
  | [] => true
  | [_] => true
  | a :: b :: rest => decide (a.1 < b.1) && wf (b :: rest)

/-- The byte the part has written at an address, if it has written one. -/
def read (a : Nat) : Memory → Option Byte
  | [] => none
  | (k, v) :: rest => if k = a then some v else read a rest

/-- Put a byte at its place in the rising order. -/
def put (a : Nat) (v : Byte) : Memory → Memory
  | [] => [(a, v)]
  | (k, w) :: rest =>
    if a < k then (a, v) :: (k, w) :: rest else if a = k then (a, v) :: rest else (k, w) :: put a v rest

/-- A write of one byte; an address above the 32-bit space holds nothing (log 11). -/
def write (a : Nat) (v : Byte) (m : Memory) : Memory := if a < 4294967296 then put a v m else m

/-- A masked byte: a byte whose enable is clear is never presented (R2). -/
def writeMasked (a : Nat) (b : Option Byte) (m : Memory) : Memory :=
  match b with
  | some v => write a v m
  | none => m

def writeLane (a : Nat) (l : MaskedLane) (m : Memory) : Memory :=
  writeMasked (a + 3) l.e3 (writeMasked (a + 2) l.e2 (writeMasked (a + 1) l.e1 (writeMasked a l.e0 m)))

def writeBeat (a : Nat) (b : MaskedBeat) (m : Memory) : Memory :=
  writeLane (a + 12) b.e3 (writeLane (a + 8) b.e2 (writeLane (a + 4) b.e1 (writeLane a b.e0 m)))

/-- The beats of a write burst in ascending address order (R150). -/
def writeBeats (a : Nat) : List MaskedBeat → Memory → Memory
  | [], m => m
  | b :: rest, m => writeBeats (a + 16) rest (writeBeat a b m)

/-- The beat memory returns at an address: the bytes the part has written, and elsewhere those of `other` (log 9). -/
def returnBeat (m : Memory) (a : Nat) (other : DataBeat) : DataBeat :=
  Quad.ofFn fun k => Quad.ofFn fun j => (read (a + 4 * k + j) m).getD ((other.get k).get j)

end Memory

/-! ### The frame range (R3) and planes -/

/-- FB by the strap codes of R3. -/
def frameBase (strap1 strap0 : Bool) : Nat :=
  match strap1, strap0 with
  | false, false => 0x00000000
  | false, true => 0x20000000
  | true, false => 0x40000000
  | true, true => 0x80000000

def State.fb (s : State) : Nat := frameBase s.front.strap1 s.front.strap0

def Plane.other : Plane → Plane
  | .A => .B
  | .B => .A

/-- The plane code of R174: 0 for A, 1 for B. -/
def Plane.number : Plane → Nat
  | .A => 0
  | .B => 1

/-- Start of a plane's aperture, which is the start of its physical region (R44). -/
def planeBase (fb : Nat) (p : Plane) : Nat := fb + p.number * Config.apertureBytes

def Planes.entry (t : Planes) : Plane → PlaneEntry
  | .A => t.a
  | .B => t.b

def Planes.setEntry (t : Planes) (p : Plane) (e : PlaneEntry) : Planes :=
  match p with
  | .A => { t with a := e }
  | .B => { t with b := e }

/-- The IDLE plane: the one the panel is not scanning (R95). -/
def Planes.idle (t : Planes) : Plane := t.scanned.other

/-- A slot is bound when the plane table names it for plane A or plane B (2.1). -/
def Planes.slotBound (t : Planes) (i : Fin 8) : Bool := decide (t.a.binding = some i) || decide (t.b.binding = some i)

def Slot.layout? : Slot → Option Layout
  | .ready l => some l
  | .empty => none
  | .loading _ => none

/-- The installed layout of the slot bound to a plane, read at the moment it is needed (R25). -/
def State.boundLayout (s : State) (p : Plane) : Option Layout :=
  match (s.planes.entry p).binding with
  | none => none
  | some i => s.layouts.slots[i].layout?

/-- The spine the gain unit reads for a plane (R65). -/
def State.boundSpine (s : State) (p : Plane) : Option Spine :=
  match s.boundLayout p with
  | none => none
  | some l => l.spine

def State.setSlot (s : State) (i : Fin 8) (x : Slot) : State :=
  { s with layouts := { s.layouts with slots := s.layouts.slots.set i x } }

/-! ### Link states and output lines -/

/-- The router takes requests in AWAKE and SLEEP-DRAIN (R6), and the link can take a record write there (R172). -/
def LinkState.active : LinkState → Bool
  | .awake => true
  | .sleepDrain => true
  | .resetHold => false
  | .settle => false
  | .asleep => false

/-- The upstream ready line (R5). -/
def State.ready (s : State) : Bool := decide (s.front.link = .awake) && decide (s.inbound.length < s.front.highWater)

/-- The sleep acknowledge line (1.7). -/
def State.sleepAcknowledge (s : State) : Bool := decide (s.front.link = .asleep)

/-- The I2C lines are in use while a sample is in progress (R120). -/
def State.i2cBusy (s : State) : Bool := decide (s.tracker.sample ≠ .none)

/-- Entering SETTLE starts the settle count, the setting times 20 µs (R12). -/
def State.enterSettle (s : State) : State :=
  { s with front := { s.front with link := .settle, settleTimer := some (s.front.settleSetting * 20) } }

/-! ### The burst in flight -/

/-- What a discarded source leaves of the burst in flight: it completes, and its data and completion are wanted by no one
(R154, R158). No reset empties the status writer (R171), nor the fill engine's hand of a granted burst (R151, log 29). -/
def Flight.unwanted (f : Flight) : Flight :=
  match f.origin with
  | .record => f
  | .fill => f
  | .fetch => { f with wanted := false }
  | .priority _ _ => { f with wanted := false }
  | .path _ _ => { f with wanted := false }
  | .ordinary _ _ => { f with wanted := false }

def State.disownFlight (s : State) : State := { s with port := s.port.map Flight.unwanted }

/-! ### Queue of commands -/

/-- The next value of the free-value counter has been used. -/
def State.tickFree (s : State) : State := { s with freeCount := s.freeCount + 1 }

end Sys2Proof.Machine
end

