-- ==== Sys2Proof/Machine/Flags.lean ====
section
/-! DEFINITION. Event flags, the attention line, counters and the record write state (10_mailbox_status_record_and_events.md). -/

namespace Sys2Proof.Machine

/-- The fourteen event flags (R167). -/
inductive EventFlag where
  | powerOn
  | loadDone
  | swapDone
  | swapAbandoned
  | swapLate
  | posture
  | unserved
  | sensor
  | latch
  | fillDone
  | guardDropped
  | cmdRejected
  | saturate
  | orphan
  deriving DecidableEq, Repr

/-- Flag numbering (11.5). -/
def EventFlag.bit : EventFlag → Nat
  | .powerOn => 0
  | .loadDone => 1
  | .swapDone => 2
  | .swapAbandoned => 3
  | .swapLate => 4
  | .posture => 5
  | .unserved => 6
  | .sensor => 7
  | .latch => 8
  | .fillDone => 9
  | .guardDropped => 10
  | .cmdRejected => 11
  | .saturate => 12
  | .orphan => 13

def EventFlag.mask (f : EventFlag) : BitVec 14 := BitVec.ofNat 14 (2 ^ f.bit)

def State.flag (s : State) (f : EventFlag) : Bool := s.status.flags.getLsbD f.bit

/-- The attention line (R168); it is low while power-on reset is asserted. -/
def State.attention (s : State) : Bool :=
  !s.pins.powerOnReset && decide (s.status.flags &&& s.status.mask ≠ 0)

/-! ### Record writes -/

/-- Whether a chain fetch stands as an offer (R152). -/
def State.fetchStands (s : State) : Bool :=
  match s.layouts.load with
  | some l => decide (l.phase = .offered)
  | none => false

def State.recordStands (s : State) : Bool := decide (s.status.write = .offered)

/-- A write that would be offered: OFFERED where the link can take it, DUE elsewhere (R172). -/
def State.offerOrDefer (s : State) : RecordWrite := if s.front.link.active then .offered else .due

def State.setWrite (s : State) (w : RecordWrite) : State := { s with status := { s.status with write := w } }

/-- A record write begins to stand as an offer, after a fetch that already stands (R152). -/
def State.offerRecord (s : State) : State :=
  match s.offerOrDefer with
  | .offered => { s.setWrite .offered with fetchFirst := s.fetchStands }
  | w => s.setWrite w

/-- A cause for a status record write (R170), by the "Cause arises" column of R171. -/
def State.recordCause (s : State) : State :=
  match s.status.write with
  | .quiet => s.offerRecord
  | .due => s
  | .offered => s
  | .writing => s.setWrite .writingDue
  | .writingDue => s

/-- The completion of a status record write (R171). -/
def State.recordWritten (s : State) : State :=
  match s.status.write with
  | .writing => s.setWrite .quiet
  | .writingDue => s.offerRecord
  | .quiet => s
  | .due => s
  | .offered => s

/-- A write DUE when the link leaves SETTLE is offered (R12, R172). -/
def State.offerDue (s : State) : State :=
  match s.status.write with
  | .due => s.offerRecord
  | .quiet => s
  | .offered => s
  | .writing => s
  | .writingDue => s

/-! ### Flags and counters -/

/-- A report of an event: it sets its flag, and a flag that was clear is a cause for a record write (R167, R170). -/
def State.report (s : State) (f : EventFlag) : State :=
  if s.flag f then s else { s with status := { s.status with flags := s.status.flags ||| f.mask } }.recordCause

inductive Counter where
  | orphan
  | padding
  | saturation
  | eviction
  | clampedSamples
  | lateSwaps
  | abandonedSwaps
  | rejectedRecords
  deriving DecidableEq, Repr

/-- A counter raised by n reports stays at 65,535 once it is there (R169). -/
def raise (count n : Nat) : Nat := min Config.counterTop (count + n)

def Counters.raise (c : Counters) (n : Nat) : Counter → Counters
  | .orphan => { c with orphan := Machine.raise c.orphan n }
  | .padding => { c with padding := Machine.raise c.padding n }
  | .saturation => { c with saturation := Machine.raise c.saturation n }
  | .eviction => { c with eviction := Machine.raise c.eviction n }
  | .clampedSamples => { c with clampedSamples := Machine.raise c.clampedSamples n }
  | .lateSwaps => { c with lateSwaps := Machine.raise c.lateSwaps n }
  | .abandonedSwaps => { c with abandonedSwaps := Machine.raise c.abandonedSwaps n }
  | .rejectedRecords => { c with rejectedRecords := Machine.raise c.rejectedRecords n }

/-- n counter reports; a counter's rise is no cause for a record write (R169). -/
def State.count (s : State) (c : Counter) (n : Nat) : State :=
  { s with status := { s.status with counters := s.status.counters.raise n c } }

/-- n saturation reports: each raises the counter and sets SATURATE (R70). -/
def State.reportSaturations (s : State) (n : Nat) : State :=
  if n = 0 then s else (s.count .saturation n).report .saturate

/-- A result recorded for a taken command is a cause for a record write (R163, R170). -/
def State.recordResult (s : State) (r : Result) : State :=
  { s with decoder := { s.decoder with lastResult := r } }.recordCause

end Sys2Proof.Machine
end

