-- ==== Sys2Proof/Machine/Operands.lean ====
section
/-! DEFINITION. How words and bytes of the records are read and written: operand words (R174), chain record fields (R175),
little-endian bytes (11.1), clamps. -/

namespace Sys2Proof.Machine

/-! ### Bytes -/

def DataBeat.bytes (b : DataBeat) : List Byte := b.e0.toList ++ b.e1.toList ++ b.e2.toList ++ b.e3.toList

/-- The bytes of fetched beats in ascending address order. -/
def beatsBytes : List DataBeat → List Byte
  | [] => []
  | b :: rest => DataBeat.bytes b ++ beatsBytes rest

/-- The byte at an offset of a record. -/
def byteAt (bytes : List Byte) (i : Nat) : Nat := (bytes.getD i 0).toNat

/-- Little-endian fields (11.1). -/
def half (bytes : List Byte) (i : Nat) : Nat := byteAt bytes i + 256 * byteAt bytes (i + 1)

def long (bytes : List Byte) (i : Nat) : Nat := half bytes i + 65536 * half bytes (i + 2)

/-- A colour is four bytes in pixel order: R, G, B, pad (11.1). -/
def colourAt (bytes : List Byte) (i : Nat) : Colour := Quad.ofFn fun k => bytes.getD (i + k) 0

def le8 (n : Nat) : List Byte := [BitVec.ofNat 8 n]

def le16 (n : Nat) : List Byte := [BitVec.ofNat 8 n, BitVec.ofNat 8 (n / 256)]

def le32 (n : Nat) : List Byte := le16 n ++ le16 (n / 65536)

/-- The beat whose first byte stands at offset i of a byte list. -/
def beatAt (bytes : List Byte) (i : Nat) : DataBeat :=
  Quad.ofFn fun k => Quad.ofFn fun j => bytes.getD (i + 4 * k + j) 0

/-- n beats from the start of a byte list. -/
def beatsOf (bytes : List Byte) (n : Nat) : List DataBeat := (List.range n).map fun i => beatAt bytes (16 * i)

/-- A beat with every byte enabled. -/
def DataBeat.masked (b : DataBeat) : MaskedBeat := b.map fun l => l.map some

/-- The data of a beat all 16 of whose enables are set, or none. -/
def fullLane (l : MaskedLane) : Option (Quad Byte) :=
  match l with
  | ⟨some a, some b, some c, some d⟩ => some ⟨a, b, c, d⟩
  | _ => none

def fullBeat (b : MaskedBeat) : Option DataBeat :=
  match fullLane b.e0, fullLane b.e1, fullLane b.e2, fullLane b.e3 with
  | some p, some q, some r, some t => some ⟨p, q, r, t⟩
  | _, _, _, _ => none

/-- The data of beats with every enable set, or none (R9). -/
def fullBeats : List MaskedBeat → Option (List DataBeat)
  | [] => some []
  | b :: rest =>
    match fullBeat b, fullBeats rest with
    | some d, some ds => some (d :: ds)
    | _, _ => none

/-! ### Control records (R174) -/

/-- Word n of a control record. -/
def recordWord (bytes : List Byte) (n : Nat) : Word := BitVec.ofNat 32 (long bytes (4 * n))

/-- A slot operand: the whole word is the number. -/
def slotOf (w : Word) : Option (Fin 8) := if h : w.toNat < 8 then some ⟨w.toNat, h⟩ else none

/-- A plane operand: 0 is plane A and 1 plane B. -/
def planeOf (w : Word) : Option Plane :=
  match w.toNat with
  | 0 => some .A
  | 1 => some .B
  | _ => none

/-- A flag operand is read from bit 0. -/
def flagOf (w : Word) : Bool := w.getLsbD 0

/-- A mask operand is read from bits 0 to 13. -/
def maskOf (w : Word) : BitVec 14 := w.setWidth 14

/-- The colour operand of FILL: R in the low byte. -/
def colourOf (w : Word) : Colour := Quad.ofFn fun k => BitVec.ofNat 8 (w.toNat / 256 ^ k)

/-- A posture map operand: a slot, or 15 for NONE; any other value is none of them (R134). -/
def mapEntryOf (w : Word) : Option (Option (Fin 8)) :=
  if w.toNat = 15 then some none
  else
    match slotOf w with
    | some i => some (some i)
    | none => none

/-- A value brought into a range, and whether that moved it. -/
def clamp (low high n : Nat) : Nat := max low (min high n)

def clampInt (low high n : Int) : Int := max low (min high n)

/-! ### Chain records (R175) -/

/-- The kind of a kind code. -/
def kindOf (code : Nat) : Option RecordKind :=
  match code with
  | 1 => some .head
  | 2 => some .view
  | 3 => some .spine
  | 4 => some .guard
  | _ => none

/-- Sizes in bytes (R29). -/
def RecordKind.size : RecordKind → Nat
  | .head => 32
  | .view => 32
  | .spine => 128
  | .guard => 64

/-- The kinds a link may announce (R30): the next kind code 0 is END. -/
inductive Link where
  | finish
  | next (kind : RecordKind) (offset : Nat)
  | bad
  deriving DecidableEq, Repr

/-- The link of a record: byte 4 and bytes 6 and 7. No link may announce HEAD. -/
def linkOf (bytes : List Byte) : Link :=
  match byteAt bytes 4 with
  | 0 => .finish
  | 2 => .next .view (half bytes 6)
  | 3 => .next .spine (half bytes 6)
  | 4 => .next .guard (half bytes 6)
  | _ => .bad

def rotationOf (degrees : Nat) : Option Rotation :=
  if degrees = 0 then some .r0
  else if degrees = 90 then some .r90
  else if degrees = 180 then some .r180
  else if degrees = 270 then some .r270
  else none

def headOf (bytes : List Byte) : HeadRecord where
  tag := half bytes 8
  background := colourAt bytes 12
  declared := byteAt bytes 10

/-- A VIEW record with the rotation its field names. -/
def viewOf (bytes : List Byte) (r : Rotation) : View where
  number := byteAt bytes 8
  rotation := r
  mirror := (bytes.getD 9 0).getLsbD 0
  base := long bytes 12
  wv := half bytes 16
  hv := half bytes 18
  sv := long bytes 20
  x0 := half bytes 24
  y0 := half bytes 26

/-- A SPINE record: as many knots as its knot count. -/
def spineOf (bytes : List Byte) : Spine where
  start := half bytes 8
  width := half bytes 10
  knots := (List.range (byteAt bytes 12)).map fun j => half bytes (16 + 2 * j)

/-- A GUARD record: as many rectangles as its rectangle count, in record order. -/
def guardOf (bytes : List Byte) : Guard where
  colour := colourAt bytes 8
  onClosed := (bytes.getD 12 0).getLsbD 0
  onPartial := (bytes.getD 12 0).getLsbD 1
  onOpen := (bytes.getD 12 0).getLsbD 2
  rects := (List.range (byteAt bytes 13)).map fun r =>
    { x := half bytes (16 + 8 * r), y := half bytes (18 + 8 * r),
      width := half bytes (20 + 8 * r), height := half bytes (22 + 8 * r) }

end Sys2Proof.Machine
end

