-- ==== Sys2Proof/Machine/Gain.lean ====
section
/-! DEFINITION. The crease gain unit (04_crease_gain.md): stateless arithmetic on one pixel. -/

namespace Sys2Proof.Machine

/-- A panel column lies in the spine band (R66). -/
def Spine.covers (sp : Spine) (x : Nat) : Bool := decide (sp.start ≤ x) && decide (x < sp.start + sp.width)

/-- The column gain (R67): exact on integers, and the quotient by 8 rounds towards minus infinity. -/
def Spine.columnGain (sp : Spine) (x : Nat) : Nat :=
  let d := x - sp.start
  let low : Int := (sp.knots.getD (d / 8) 0 : Nat)
  let high : Int := (sp.knots.getD (d / 8 + 1) 0 : Nat)
  (low + ((high - low) * ((d % 8 : Nat) : Int) + 4) / 8).toNat

/-- The scaled channel before its limit (R68). -/
def scaledChannel (c g : Nat) : Nat := (c * g + 8192) / 16384

def gainedChannel (c : Byte) (g : Nat) : Byte := BitVec.ofNat 8 (min 255 (scaledChannel c.toNat g))

/-- A channel saturates when its rounded product exceeds 255 (R68). -/
def saturates (c : Byte) (g : Nat) : Bool := decide (255 < scaledChannel c.toNat g)

/-- The number of saturation reports of an enabled or disabled channel (R69). -/
def channelReports (g : Nat) : Option Byte → Nat
  | some c => if saturates c g then 1 else 0
  | none => 0

/-- The bytes of a pixel at a panel column as they are written (R66, R69): R, G and B gained in the band, the pad byte kept. -/
def gainLane (spine : Option Spine) (x : Nat) (l : MaskedLane) : MaskedLane :=
  match spine with
  | none => l
  | some sp =>
    if sp.covers x then
      let g := sp.columnGain x
      { e0 := l.e0.map (gainedChannel · g), e1 := l.e1.map (gainedChannel · g), e2 := l.e2.map (gainedChannel · g), e3 := l.e3 }
    else l

/-- The saturation reports of a pixel (R70). -/
def laneReports (spine : Option Spine) (x : Nat) (l : MaskedLane) : Nat :=
  match spine with
  | none => 0
  | some sp =>
    if sp.covers x then
      let g := sp.columnGain x
      channelReports g l.e0 + channelReports g l.e1 + channelReports g l.e2
    else 0

end Sys2Proof.Machine
end

