-- ==== Sys2Proof/Machine/Translate.lean ====
section
/-! DEFINITION. Regions and pieces (R3, R7) and the translation arithmetic (03_address_translation.md): from upstream address to
panel position, row runs, inserts, read plans and assembly maps. Everything here is a function of addresses and layouts alone. -/

namespace Sys2Proof.Machine

/-! ### Regions and pieces -/

/-- The region of a byte address (R3). -/
def regionOf (fb a : Nat) : Region :=
  if a < fb then .below
  else if a < fb + Config.apertureBytes then .aperture .A
  else if a < fb + 2 * Config.apertureBytes then .aperture .B
  else if a < fb + Config.descriptorOffset + Config.descriptorBytes then .descriptor
  else if a < fb + Config.frameRangeBytes then .direct
  else .above

/-- How many of n beats from address a lie in the region of the first. -/
def beatsInRegion (fb a : Nat) : Nat → Nat
  | 0 => 0
  | n + 1 => if regionOf fb (a + 16 * n) = regionOf fb a then n + 1 else beatsInRegion fb a n

/-- The pieces of a request: one, or two when it crosses a region boundary (R7). -/
def piecesOf (fb : Nat) (r : Request) : List Piece :=
  let n := r.payload.length
  let k := beatsInRegion fb r.addr n
  if n ≤ k then [{ region := regionOf fb r.addr, addr := r.addr, payload := r.payload, first := 0 }]
  else
    [{ region := regionOf fb r.addr, addr := r.addr, payload := r.payload.take k, first := 0 },
     { region := regionOf fb (r.addr + 16 * k), addr := r.addr + 16 * k, payload := r.payload.drop k, first := k }]

/-- The 64 bytes of a write that exactly covers the mailbox (R9). -/
def mailboxBytes (fb : Nat) (r : Request) : Option (List DataBeat) :=
  match r.payload with
  | .read _ => none
  | .write beats =>
    if r.addr = fb + Config.descriptorOffset ∧ beats.length = 4 then fullBeats beats
    else none

/-! ### From address to panel -/

/-- Window size and panel extents of a view (R19). -/
def View.windowBytes (v : View) : Nat := v.sv * v.hv

def View.turned (v : View) : Bool :=
  match v.rotation with
  | .r0 => false
  | .r90 => true
  | .r180 => false
  | .r270 => true

def View.pw (v : View) : Nat := if v.turned then v.hv else v.wv

def View.ph (v : View) : Nat := if v.turned then v.wv else v.hv

def View.panelRect (v : View) : Rect := { x := v.x0, y := v.y0, width := v.pw, height := v.ph }

def Rect.covers (r : Rect) (x y : Nat) : Bool :=
  decide (r.x ≤ x) && decide (x < r.x + r.width) && decide (r.y ≤ y) && decide (y < r.y + r.height)

/-- A rectangle covers a pixel of beat b of row y. -/
def Rect.meetsBeat (r : Rect) (b y : Nat) : Bool :=
  r.covers (4 * b) y || r.covers (4 * b + 1) y || r.covers (4 * b + 2) y || r.covers (4 * b + 3) y

/-- The beat of a panel position holds pixels of more than one view of the layout (R54). -/
def beatShared (layout : Option Layout) (x y : Nat) : Bool :=
  match layout with
  | none => false
  | some l => decide (1 < (l.views.filter fun v => v.panelRect.meetsBeat (x / 4) y).length)

def View.holds (v : View) (o : Nat) : Bool := decide (v.base ≤ o) && decide (o < v.base + v.windowBytes)

/-- The outcome of a pixel lane (R46), with the logical row and column of an IN-VIEW lane (R47). -/
inductive Outcome where
  | noLayout
  | outside
  | padding
  | inView (view : View) (u row : Nat)
  deriving DecidableEq, Repr

/-- R46, R47: the tests in order, at aperture offset o. -/
def outcomeOf (layout : Option Layout) (o : Nat) : Outcome :=
  match layout with
  | none => .noLayout
  | some l =>
    match l.views.find? (·.holds o) with
    | none => .outside
    | some v =>
      let e := o - v.base
      if v.wv * 4 ≤ e % v.sv then .padding else .inView v (e % v.sv / 4) (e / v.sv)

/-- Mirror first (R48). -/
def View.mirrored (v : View) (u : Nat) : Nat := if v.mirror then v.wv - 1 - u else u

/-- The view position (R48): rotation clockwise after the mirror. -/
def View.position (v : View) (u row : Nat) : Nat × Nat :=
  let u' := v.mirrored u
  match v.rotation with
  | .r0 => (u', row)
  | .r90 => (v.hv - 1 - row, u')
  | .r180 => (v.wv - 1 - u', v.hv - 1 - row)
  | .r270 => (row, v.wv - 1 - u')

/-- The panel position (R48). -/
def View.panel (v : View) (u row : Nat) : Nat × Nat := (v.x0 + (v.position u row).1, v.y0 + (v.position u row).2)

/-- The beat address of a panel position on the plane whose physical region starts at base (R49); its lane is x mod 4. -/
def panelBeat (base x y : Nat) : Nat := base + y * Config.rowPitch + x / 4 * 16

/-! ### The lanes of a piece -/

/-- The lanes of beats that start at aperture offset o, each with its offset, in ascending order (R44). -/
def lanesFrom {α : Type} (o : Nat) : List (Quad α) → List (Nat × α)
  | [] => []
  | b :: rest => (o, b.e0) :: (o + 4, b.e1) :: (o + 8, b.e2) :: (o + 12, b.e3) :: lanesFrom (o + 16) rest

/-- Put the lane at offset o before the steps of the lanes after it (R45, R50 to R52, R55): a lane with no enable is ignored, and
a lane of an unturned view joins the row run that follows it. -/
def consStep (layout : Option Layout) (lane : Nat × MaskedLane) (rest : List LaneStep) : List LaneStep :=
  if lane.2.any Option.isSome then
    match outcomeOf layout lane.1 with
    | .noLayout => .orphan :: rest
    | .outside => .orphan :: rest
    | .padding => .padding :: rest
    | .inView v u row =>
      let p : PlacedLane := { x := (v.panel u row).1, y := (v.panel u row).2, bytes := lane.2 }
      if v.turned then .turned p :: rest
      else
        match rest with
        | .run n r ps :: more => if n = v.number ∧ r = row then .run n r (p :: ps) :: more else .run v.number row [p] :: rest
        | _ => .run v.number row [p] :: rest
  else rest

/-- What a write piece's lanes come to, in ascending aperture offset (R51). -/
def laneSteps (layout : Option Layout) (lanes : List (Nat × MaskedLane)) : List LaneStep := lanes.foldr (consStep layout) []

/-- Lowest and highest physical beat of a run, by column. -/
def lowBeat : List Nat → Nat
  | [] => 0
  | [x] => x / 4
  | x :: rest => min (x / 4) (lowBeat rest)

def highBeat : List Nat → Nat
  | [] => 0
  | x :: rest => max (x / 4) (highBeat rest)

/-- The lane at a column, or a lane with every enable clear. -/
def laneAt {α : Type} (blank : α) (x : Nat) : List (Nat × α) → α
  | [] => blank
  | (k, a) :: rest => if k = x then a else laneAt blank x rest

/-- The physical beats of a row run from the lowest to the highest that receives an enabled byte (R53, R58). -/
def rowBeats {α : Type} (blank : α) (lanes : List (Nat × α)) : List (Quad α) :=
  let low := lowBeat (lanes.map (·.1))
  (List.range (highBeat (lanes.map (·.1)) - low + 1)).map fun j => Quad.ofFn fun k => laneAt blank (4 * (low + j) + k) lanes

def noBytes : MaskedLane := Quad.replicate none

def noEnables : Quad Bool := Quad.replicate false

/-- The straight segment of a row run (R53), its lanes gained each by its own panel column (R71). -/
def runBeats (spine : Option Spine) (lanes : List PlacedLane) : List MaskedBeat :=
  rowBeats noBytes (lanes.map fun p => (p.x, gainLane spine p.x p.bytes))

def runAddr (base : Nat) (lanes : List PlacedLane) : Nat :=
  match lanes with
  | [] => base
  | p :: _ => base + p.y * Config.rowPitch + lowBeat (lanes.map (·.x)) * 16

/-- The saturation reports of a row run (R70). -/
def runReports (spine : Option Spine) : List PlacedLane → Nat
  | [] => 0
  | p :: rest => laneReports spine p.x p.bytes + runReports spine rest

/-- The insert of a lane of a turned view (R55, R72). -/
def insertOf (layout : Option Layout) (spine : Option Spine) (plane : Plane) (base : Nat) (p : PlacedLane) : Insert where
  key := { plane := plane, beat := panelBeat base p.x p.y }
  lane := p.x % 4
  bytes := gainLane spine p.x p.bytes
  shared := beatShared layout p.x p.y

/-! ### Reads -/

/-- What a segment of the read plan serves: a row run of an unturned view (R58), or one physical beat of a turned one (R59). -/
inductive ReadGroup where
  | run (view row : Nat)
  | beat (addr : Nat)
  deriving DecidableEq, Repr

/-- An IN-VIEW lane of a read piece. -/
structure ReadLane where
  group : ReadGroup
  x : Nat
  y : Nat
  enables : Quad Bool
  deriving DecidableEq, Repr

/-- The lane to read for an upstream lane, or none for one answered with zero bytes (R57). -/
def readLane (layout : Option Layout) (base o : Nat) (enables : Quad Bool) : Option ReadLane :=
  if enables.any id then
    match outcomeOf layout o with
    | .inView v u row =>
      let p := v.panel u row
      some
        { group := if v.turned then .beat (panelBeat base p.1 p.2) else .run v.number row,
          x := p.1, y := p.2, enables := enables }
    | .noLayout => none
    | .outside => none
    | .padding => none
  else none

/-- The read lanes of beats that start at aperture offset o. -/
def readLanes (layout : Option Layout) (base o : Nat) : List EnableBeat → List (Quad (Option ReadLane))
  | [] => []
  | b :: rest =>
    ⟨readLane layout base o b.e0, readLane layout base (o + 4) b.e1, readLane layout base (o + 8) b.e2,
      readLane layout base (o + 12) b.e3⟩ :: readLanes layout base (o + 16) rest

/-- Lanes gathered by the segment that serves them, in the order of the first lane each serves (R60). -/
def gather (lane : ReadLane) : List (ReadGroup × List ReadLane) → List (ReadGroup × List ReadLane)
  | [] => [(lane.group, [lane])]
  | (g, ls) :: rest => if g = lane.group then (g, ls ++ [lane]) :: rest else (g, ls) :: gather lane rest

def gatherAll : List ReadLane → List (ReadGroup × List ReadLane) → List (ReadGroup × List ReadLane)
  | [], acc => acc
  | lane :: rest, acc => gatherAll rest (gather lane acc)

/-- The planned segment that serves a group's lanes. -/
def planSegment (base index : Nat) (lanes : List ReadLane) : PlanSegment where
  index := index
  addr :=
    match lanes with
    | [] => base
    | p :: _ => base + p.y * Config.rowPitch + lowBeat (lanes.map (·.x)) * 16
  beats := rowBeats noEnables (lanes.map fun p => (p.x, p.enables))

def planFrom (base : Nat) : Nat → List (ReadGroup × List ReadLane) → List PlanSegment
  | _, [] => []
  | n, (_, ls) :: rest => planSegment base n ls :: planFrom base (n + 1) rest

/-- The place of a lane's group in the plan, and the lane's beat in that segment. -/
def sourceIn (lane : ReadLane) : Nat → List (ReadGroup × List ReadLane) → LaneSource
  | _, [] => .filled (Quad.replicate 0)
  | n, (g, ls) :: rest =>
    if g = lane.group then .awaits n (lane.x / 4 - lowBeat (ls.map (·.x))) (lane.x % 4) lane.enables
    else sourceIn lane (n + 1) rest

/-- The assembly map's word on an upstream lane (R57 to R59). -/
def laneSource (groups : List (ReadGroup × List ReadLane)) : Option ReadLane → LaneSource
  | none => .filled (Quad.replicate 0)
  | some lane => sourceIn lane 0 groups

/-- The groups of a read piece's lanes. -/
def readGroups (lanes : List (Quad (Option ReadLane))) : List (ReadGroup × List ReadLane) :=
  gatherAll (lanes.flatMap fun q => q.toList.filterMap id) []

/-- The read plan and assembly map of an aperture read piece (R57 to R60). -/
def readPlan (layout : Option Layout) (base o : Nat) (beats : List EnableBeat) : List PlanSegment × List (Quad LaneSource) :=
  let lanes := readLanes layout base o beats
  let groups := readGroups lanes
  (planFrom base 0 groups, lanes.map fun q => q.map (laneSource groups))

/-- The bytes a lane returns: those whose enables are set, and zero elsewhere (R57, R62). -/
def maskedBytes (enables : Quad Bool) (bytes : Quad Byte) : Quad Byte := Quad.zipWith (fun e b => if e then b else 0) enables bytes

/-- A beat of a planned segment's data fills the upstream lanes tied to it (R62). -/
def LaneSource.fill (segment beat : Nat) (data : DataBeat) : LaneSource → LaneSource
  | .filled bytes => .filled bytes
  | .awaits s b lane enables =>
    if s = segment ∧ b = beat then .filled (maskedBytes enables (data.get lane)) else .awaits s b lane enables

def LaneSource.bytes? : LaneSource → Option (Quad Byte)
  | .filled bytes => some bytes
  | .awaits _ _ _ _ => none

/-- An upstream beat whose four lanes are all filled (R62). -/
def assembledBeat (q : Quad LaneSource) : Option DataBeat :=
  match q.e0.bytes?, q.e1.bytes?, q.e2.bytes?, q.e3.bytes? with
  | some a, some b, some c, some d => some ⟨a, b, c, d⟩
  | _, _, _, _ => none

/-- Every beat of the piece is complete (R62). -/
def assemblyComplete (assembly : List (Quad LaneSource)) : Bool := assembly.all fun q => (assembledBeat q).isSome

/-- The keys of the beats a segment covers (R60). -/
def beatKeys (plane : Plane) (addr : Nat) : Nat → List Key
  | 0 => []
  | n + 1 => { plane := plane, beat := addr } :: beatKeys plane (addr + 16) n

def PlanSegment.keys (plane : Plane) (p : PlanSegment) : List Key := beatKeys plane p.addr p.beats.length

end Sys2Proof.Machine
end

