-- ==== Sys2Proof/Machine/Layouts.lean ====
section
/-! DEFINITION. The layout table's chain walk (02_layouts_and_the_layout_table.md): field checks, link checks, whole-layout
checks, the end of a load. -/

namespace Sys2Proof.Machine

def Staging.cleared : Staging where
  head := none
  views := List.replicate 6 none
  viewCount := 0
  spine := none
  spineCount := 0
  guard := none
  guardCount := 0

/-! ### Field checks (R32 to R35): the staging copy after the record, or the result that ends the load -/

/-- R32. -/
def checkHead (st : Staging) (bytes : List Byte) : Except Result Staging :=
  let h := headOf bytes
  if 1 ≤ h.declared ∧ h.declared ≤ 6 then .ok { st with head := some h } else .error .badView

/-- Checks 3 to 8 of R33. -/
def View.wellPlaced (v : View) : Bool :=
  decide (4 ≤ v.wv ∧ v.wv ≤ 2400 ∧ 4 ≤ v.hv ∧ v.hv ≤ 2400) && decide (v.base % 256 = 0) &&
    decide (v.sv % 16 = 0 ∧ v.wv * 4 ≤ v.sv) && (v.turned || decide (v.x0 % 4 = 0 ∧ v.wv % 4 = 0)) &&
    decide (v.base + v.windowBytes ≤ Config.apertureBytes) &&
    decide (v.x0 + v.pw ≤ Config.panelColumns ∧ v.y0 + v.ph ≤ Config.panelRows)

/-- R33. Every check of it ends the load with the one result, so their order does not show. -/
def checkView (st : Staging) (bytes : List Byte) : Except Result Staging :=
  match rotationOf (half bytes 10) with
  | none => .error .badView
  | some r =>
    let v := viewOf bytes r
    if v.number < 6 ∧ v.wellPlaced = true then
      .ok { st with views := st.views.set v.number (some v), viewCount := st.viewCount + 1 }
    else .error .badView

/-- R34. -/
def checkSpine (st : Staging) (bytes : List Byte) : Except Result Staging :=
  let sp := spineOf bytes
  if 8 ≤ sp.width ∧ sp.width ≤ 256 ∧ sp.width % 8 = 0 ∧ byteAt bytes 12 = sp.width / 8 + 1 then
    .ok { st with spine := some sp, spineCount := st.spineCount + 1 }
  else .error .badSpine

/-- R35. -/
def checkGuard (st : Staging) (bytes : List Byte) : Except Result Staging :=
  let g := guardOf bytes
  if (g.onClosed || g.onPartial || g.onOpen) = true ∧ 1 ≤ byteAt bytes 13 ∧ byteAt bytes 13 ≤ 4 ∧
      (g.rects.all fun r => decide (1 ≤ r.width) && decide (1 ≤ r.height)) = true then
    .ok { st with guard := some g, guardCount := st.guardCount + 1 }
  else .error .badGuard

def checkFields (kind : RecordKind) (st : Staging) (bytes : List Byte) : Except Result Staging :=
  match kind with
  | .head => checkHead st bytes
  | .view => checkView st bytes
  | .spine => checkSpine st bytes
  | .guard => checkGuard st bytes

/-! ### Whole-layout checks (R36) -/

/-- Two windows share a byte when each begins before the other ends. -/
def windowsMeet (v w : View) : Bool := decide (v.base < w.base + w.windowBytes) && decide (w.base < v.base + v.windowBytes)

/-- Two rectangles share a pixel when their column spans and their row spans both intersect. -/
def rectsMeet (p q : Rect) : Bool :=
  decide (p.x < q.x + q.width) && decide (q.x < p.x + p.width) && decide (p.y < q.y + q.height) && decide (q.y < p.y + p.height)

/-- No two elements at different places meet. -/
def apart {α : Type} (meet : α → α → Bool) : List α → Bool
  | [] => true
  | a :: rest => rest.all (fun b => !meet a b) && apart meet rest

def Rect.onPanel (r : Rect) : Bool := decide (r.x + r.width ≤ Config.panelColumns ∧ r.y + r.height ≤ Config.panelRows)

/-- The views of the filled view places, in ascending view-number order (R37). -/
def Staging.viewList (st : Staging) : List View := st.views.filterMap id

/-- R36, in its order: the layout to install, or the result that ends the load. -/
def checkWhole (st : Staging) : Except Result Layout :=
  match st.head with
  | none => .error .badView
  | some h =>
    if ¬(st.viewCount = h.declared ∧ st.viewCount = st.viewList.length) then .error .badView
    else if 1 < st.spineCount then .error .badSpine
    else if 1 < st.guardCount then .error .badGuard
    else if !apart windowsMeet st.viewList then .error .overlap
    else if !apart rectsMeet (st.viewList.map View.panelRect) then .error .overlap
    else if !(match st.spine with | none => true | some sp => decide (sp.start + sp.width ≤ Config.panelColumns)) then .error .badSpine
    else if !(match st.guard with | none => true | some g => g.rects.all Rect.onPanel) then .error .badGuard
    else .ok { tag := h.tag, background := h.background, views := st.viewList, spine := st.spine, guard := st.guard }

/-! ### The walk (R30, R31) -/

/-- What follows a checked record. -/
inductive WalkStep where
  | fetch (kind : RecordKind) (offset : Nat)
  | install (layout : Layout)
  | fail (result : Result)
  deriving DecidableEq, Repr

/-- R30: the link, when it does not announce END, before the record it points to is fetched; at END, R36. -/
def checkLink (st : Staging) (fetched : Nat) (bytes : List Byte) : WalkStep :=
  match linkOf bytes with
  | .bad => .fail .badRecord
  | .finish =>
    match checkWhole st with
    | .ok l => .install l
    | .error r => .fail r
  | .next kind offset =>
    if offset % 32 ≠ 0 ∨ offset < 0x200 ∨ Config.descriptorBytes < offset + kind.size then .fail .chainRange
    else if 16 ≤ fetched then .fail .chainLong
    else .fetch kind offset

/-- R31: kind, count, field checks, link. Answers the staging copy after the record and what follows. -/
def checkRecord (l : Load) (bytes : List Byte) : Staging × WalkStep :=
  if kindOf (byteAt bytes 0) = some l.kind then
    match checkFields l.kind l.staging bytes with
    | .error r => (l.staging, .fail r)
    | .ok st => (st, checkLink st (l.fetched + 1) bytes)
  else (l.staging, .fail .badRecord)

/-- Beats of a record's fetch (R29). -/
def RecordKind.beats (k : RecordKind) : Nat := k.size / 16

/-! ### The end of a load -/

/-- The slot's state before the load (R38). -/
def restoredSlot : Slot → Slot
  | .loading (some l) => .ready l
  | .loading none => .empty
  | .ready l => .ready l
  | .empty => .empty

/-- The end of a load is reported: busy cleared, the result recorded, LOAD-DONE set (R37, R38). -/
def State.endLoad (s : State) (slot : Slot) (i : Fin 8) (r : Result) : State :=
  let s' := s.setSlot i slot
  { s' with
      layouts := { s'.layouts with load := none }
      decoder := { s'.decoder with busy := false, lastResult := r } }.recordCause.report .loadDone

/-- A begun load is aborted by a reset (R39, R40): its fetch is withdrawn or left to complete for no one, the slot restored. -/
def State.abortLoad (s : State) : State :=
  match s.layouts.load with
  | none => s
  | some l => s.endLoad (restoredSlot s.layouts.slots[l.slot]) l.slot .aborted

/-- A chain fetch begins to stand as an offer; a record write that already stands goes ahead of it (R152). -/
def State.offerFetch (s : State) (l : Load) : State :=
  { s with layouts := { s.layouts with load := some { l with phase := .offered, data := [] } }, fetchFirst := !s.recordStands }

/-- A chain record has been fetched whole: it is checked, and the next fetch is offered or the load ends (R28, R31, R37, R38). -/
def State.recordFetched (s : State) (l : Load) : State :=
  let (staging, step) := checkRecord l (beatsBytes l.data)
  match step with
  | .fetch kind offset => s.offerFetch { l with offset := offset, kind := kind, fetched := l.fetched + 1, staging := staging }
  | .install layout => s.endLoad (.ready layout) l.slot .ok
  | .fail r => s.endLoad (restoredSlot s.layouts.slots[l.slot]) l.slot r

end Sys2Proof.Machine
end

