-- ==== Sys2Proof/Machine/Collector.lean ====
section
/-! DEFINITION. The rotation collector (05_the_rotation_collector.md): operations on its table and queues alone. -/

namespace Sys2Proof.Machine

/-- A complete entry has all 16 byte enables set (5.1). -/
def completeBeat (b : MaskedBeat) : Bool := b.all fun l => l.all Option.isSome

def Entry.toWrite (e : Entry) : FlushWrite := { id := e.id, key := e.key, data := e.data }

namespace Collector

def ordinaryRoom (c : Collector) : Bool := decide (c.ordinary.length < Config.flushPlaces)

def priorityRoom (c : Collector) : Bool := decide (c.priority.length < Config.flushPlaces)

def tableRoom (c : Collector) : Bool := decide (c.table.length < Config.tablePlaces)

def entryNamed (c : Collector) (id : Nat) : Option Entry := c.table.find? (·.id = id)

def entryFor (c : Collector) (k : Key) : Option Entry := c.table.find? (·.key = k)

def dropEntry (c : Collector) (id : Nat) : Collector :=
  { c with table := c.table.filter (·.id ≠ id), asked := c.asked.filter (· ≠ id) }

def setFlush (c : Collector) (id : Nat) (f : FlushState) : Collector :=
  { c with table := c.table.map fun e => if e.id = id then { e with flush := f } else e }

/-! ### Ordinary flushes (R86) -/

/-- An entry leaves the table as one flush write at the tail of the ordinary queue. -/
def leaveOrdinary (c : Collector) (id : Nat) : Collector :=
  match c.entryNamed id with
  | none => c
  | some e => { c.dropEntry id with ordinary := c.ordinary ++ [e.toWrite] }

/-- The ORDINARY-WAITING entry asked first takes each place the ordinary queue has (R86). -/
def fillOrdinaryWith (c : Collector) : List Nat → Collector
  | [] => c
  | id :: rest => if c.ordinaryRoom then fillOrdinaryWith (c.leaveOrdinary id) rest else c

def fillOrdinary (c : Collector) : Collector := c.fillOrdinaryWith c.asked

/-- An ordinary flush asked of an entry (R86): it leaves at once if the queue has room and none was asked before it. Only an HELD
entry is asked (R78). -/
def askOrdinary (c : Collector) (id : Nat) : Collector :=
  match c.entryNamed id with
  | none => c
  | some e =>
    match e.flush with
    | .held =>
      if c.ordinaryRoom && c.asked.isEmpty then c.leaveOrdinary id
      else { c.setFlush id .ordinaryWaiting with asked := c.asked ++ [id] }
    | .ordinaryWaiting => c
    | .priorityWaiting => c

def askEach (c : Collector) : List Nat → Collector
  | [] => c
  | id :: rest => (c.askOrdinary id).askEach rest

/-! ### Priority requests (R87) -/

/-- One move of a request: a promotion, or the entry's leaving into the priority queue. -/
def movePriority (c : Collector) (id : Nat) : Collector :=
  match c.ordinary.find? (·.id = id) with
  | some w => { c with ordinary := c.ordinary.filter (·.id ≠ id), priority := c.priority ++ [w] }
  | none =>
    match c.entryNamed id with
    | some e => { c.dropEntry id with priority := c.priority ++ [e.toWrite] }
    | none => c

/-- Moves in their order, each while the priority queue has a place. -/
def moveEach (c : Collector) : List Nat → Collector
  | [] => c
  | id :: rest => if c.priorityRoom then (c.movePriority id).moveEach rest else c

/-- A request's write still to be moved is in the ordinary queue or the table. -/
def unmoved (c : Collector) (id : Nat) : Bool := c.ordinary.any (·.id = id) || c.table.any (·.id = id)

/-- Requests are carried out in the order they were made, as places allow (R87). -/
def carryOut (c : Collector) : Collector :=
  let c' := c.moveEach (c.requests.flatMap (·.moves))
  { c' with
    requests := (c'.requests.map fun r => { r with moves := r.moves.filter c'.unmoved }).filter fun r => !r.moves.isEmpty }

/-- Places that have appeared are taken: first by waiting priority requests, then by ORDINARY-WAITING entries (R86, R87). -/
def advance (c : Collector) : Collector := c.carryOut.fillOrdinary

/-- The writes a request for a key has to move: its ordinary writes, oldest first, then its entry. -/
def movesFor (c : Collector) (k : Key) : List Nat :=
  (c.ordinary.filter (·.key = k)).map (·.id) ++ (c.table.filter (·.key = k)).map (·.id)

/-- A priority request is made: its entry stands as PRIORITY-WAITING from this moment. -/
def makeRequest (c : Collector) (k : Key) : Collector :=
  match c.movesFor k with
  | [] => c
  | moves =>
    { c with
      table := c.table.map fun e => if e.key = k then { e with flush := .priorityWaiting } else e
      asked := c.asked.filter fun id => !moves.contains id
      requests := c.requests ++ [{ key := k, moves := moves }] }

def makeRequests (c : Collector) : List Key → Collector
  | [] => c
  | k :: rest => (c.makeRequest k).makeRequests rest

/-- Requests made at one moment, then carried out as places allow (log 21). -/
def requestPriority (c : Collector) (keys : List Key) : Collector := (c.makeRequests keys).advance

/-! ### Inserts (R80 to R83) -/

/-- Later data wins byte by byte (R80). -/
def mergeLane (old new : MaskedLane) : MaskedLane :=
  Quad.zipWith (fun o n => match n with | some b => some b | none => o) old new

def mergeBeat (b : MaskedBeat) (lane : Nat) (bytes : MaskedLane) : MaskedBeat := b.set lane (mergeLane (b.get lane) bytes)

def emptyBeat : MaskedBeat := Quad.replicate (Quad.replicate none)

/-- R80, R83: a merge, and the completion flush of an HELD entry it completes; an entry whose beat two views share has none (log 31). -/
def merge (c : Collector) (i : Insert) (e : Entry) : Collector :=
  let data := mergeBeat e.data i.lane i.bytes
  let c' := { c with table := c.table.map fun x => if x.id = e.id then { x with data := data } else x }
  if completeBeat data && !i.shared then c'.askOrdinary e.id else c'

/-- R81, R91: a new entry at the tail of the table, flushed at once in SLEEP-DRAIN. -/
def create (c : Collector) (i : Insert) (id : Nat) (sleeping : Bool) : Collector :=
  let e : Entry :=
    { id := id, key := i.key, data := mergeBeat emptyBeat i.lane i.bytes, age := 0, flush := .held }
  let c' := { c with table := c.table ++ [e] }
  if sleeping then c'.askOrdinary id else c'

/-- What became of an insert: the collector after it, whether it was taken, whether it made an entry of the name offered, and
whether it evicted. -/
structure InsertAnswer where
  collector : Collector
  taken : Bool
  created : Bool
  evicted : Bool
  deriving DecidableEq, Repr

/-- An insert (R80, R81, R82). -/
def insert (c : Collector) (i : Insert) (id : Nat) (sleeping : Bool) : InsertAnswer :=
  match c.entryFor i.key with
  | some e => { collector := c.merge i e, taken := true, created := false, evicted := false }
  | none =>
    if c.tableRoom then { collector := c.create i id sleeping, taken := true, created := true, evicted := false }
    else
      match c.table with
      | [] => { collector := c, taken := false, created := false, evicted := false }
      | oldest :: _ =>
        match oldest.flush with
        | .held =>
          let c' := c.askOrdinary oldest.id
          if c'.tableRoom then { collector := c'.create i id sleeping, taken := true, created := true, evicted := true }
          else { collector := c', taken := false, created := false, evicted := true }
        | .ordinaryWaiting => { collector := c, taken := false, created := false, evicted := false }
        | .priorityWaiting => { collector := c, taken := false, created := false, evicted := false }

/-! ### Age and sleep -/

/-- R84: every entry ages, and the HELD entries that take age 2 are asked for an ordinary flush, oldest first. -/
def ageTick (c : Collector) : Collector :=
  let due := (c.table.filter fun e => decide (e.age = 1) && decide (e.flush = .held)).map (·.id)
  let aged : Collector := { c with table := c.table.map fun e => { e with age := min 2 (e.age + 1) } }
  aged.askEach due

/-- R91: an ordinary flush asked of every HELD entry, in creation order. -/
def flushAll (c : Collector) : Collector := c.askEach ((c.table.filter fun e => decide (e.flush = .held)).map (·.id))

/-! ### Hazards and drains -/

/-- Every write held for one of the keys: in the table, in either queue (R88). -/
def heldFor (c : Collector) (keys : List Key) : List Nat :=
  (c.priority.filter fun w => keys.contains w.key).map (·.id) ++ (c.ordinary.filter fun w => keys.contains w.key).map (·.id) ++
    (c.table.filter fun e => keys.contains e.key).map (·.id)

/-- Every write of a plane: in the table, in either queue (R89). -/
def writesOf (c : Collector) (p : Plane) : List Nat :=
  (c.priority.filter fun w => w.key.plane = p).map (·.id) ++ (c.ordinary.filter fun w => w.key.plane = p).map (·.id) ++
    (c.table.filter fun e => e.key.plane = p).map (·.id)

/-- The keys a drain request asks for: of the ordinary writes in queue order, then of the entries in creation order (R89). -/
def drainKeys (c : Collector) (p : Plane) : List Key :=
  ((c.ordinary.filter fun w => w.key.plane = p).map (·.key) ++ (c.table.filter fun e => e.key.plane = p).map (·.key)).eraseDups

/-- A drain request (R89). `flying` names the plane's flush write in flight, if there is one. A set with nothing unwritten is
reported at once and not kept. -/
def drain (c : Collector) (p : Plane) (commit : Nat) (flying : List Nat) : Collector :=
  let unwritten := flying ++ c.writesOf p
  let c' := c.requestPriority (c.drainKeys p)
  if unwritten.isEmpty then c' else { c' with drains := c'.drains ++ [{ commit := commit, unwritten := unwritten }] }

/-- Whether a commit's drain set is still to be reported written. -/
def draining (c : Collector) (commit : Nat) : Bool := c.drains.any (·.commit = commit)

/-- Writes that leave their drain sets, written or discarded; a set left empty is reported and no longer kept (R89). -/
def leaveDrains (c : Collector) (gone : Nat → Bool) : Collector :=
  { c with
    drains :=
      (c.drains.map fun d => { d with unwritten := d.unwritten.filter fun id => !gone id }).filter fun d => !d.unwritten.isEmpty }

/-! ### Discard and reset -/

/-- A discard request (R90). -/
def discard (c : Collector) (p : Plane) : Collector :=
  let gone := (c.table.filter fun e => e.key.plane = p).map (·.id)
  let gone' := c.writesOf p
  ({ c with
      table := c.table.filter fun e => e.key.plane ≠ p
      ordinary := c.ordinary.filter fun w => w.key.plane ≠ p
      priority := c.priority.filter fun w => w.key.plane ≠ p
      requests := c.requests.filter fun r => r.key.plane ≠ p
      asked := c.asked.filter fun id => !gone.contains id }.leaveDrains gone'.contains).advance

/-- R93: what a link reset and a soft reset discard. The age interval is kept; `timer` is the age timer after the reset. -/
def clear (c : Collector) (timer : Option Nat) : Collector :=
  { table := [], ordinary := [], priority := [], asked := [], requests := [], drains := [], ageInterval := c.ageInterval,
    ageTimer := timer }

def isEmpty (c : Collector) : Bool := c.table.isEmpty && c.ordinary.isEmpty && c.priority.isEmpty

end Collector

end Sys2Proof.Machine
end

