-- ==== Sys2Proof/Machine/Path.lean ====
section
/-! DEFINITION. The request path, router and address translator at work (01 R6 to R11, 03 R50 to R62): what a step does with the
request in translation. -/

namespace Sys2Proof.Machine

/-! ### Upstream answers (R11) -/

/-- The leading complete beats. -/
def completeBeats : List (Option DataBeat) → List DataBeat
  | [] => []
  | none :: _ => []
  | some b :: rest => b :: completeBeats rest

/-- Beats of the oldest entry go upstream as each and all earlier ones are complete; an entry wholly sent leaves the list and the
next is answered. -/
def sendReady : List Response → List DataBeat × List Response
  | [] => ([], [])
  | r :: rest =>
    let out := completeBeats (r.beats.drop r.sent)
    if r.sent + out.length = r.beats.length then (out ++ (sendReady rest).1, (sendReady rest).2)
    else (out, { r with sent := r.sent + out.length } :: rest)

def State.sendUpstream (s : State) : State :=
  { s with sentUpstream := s.sentUpstream ++ (sendReady s.responses).1, responses := (sendReady s.responses).2 }

/-- A beat of a response entry becomes complete. -/
def State.setBeat (s : State) (id i : Nat) (b : DataBeat) : State :=
  { s with responses := s.responses.map fun r => if r.id = id then { r with beats := r.beats.set i (some b) } else r }

/-- Every assembled beat of a read piece is marked complete in its entry (R62). -/
def State.setAssembled (s : State) (id : Nat) : Nat → List (Quad LaneSource) → State
  | _, [] => s
  | i, q :: rest =>
    match assembledBeat q with
    | some b => (s.setBeat id i b).setAssembled id (i + 1) rest
    | none => s.setAssembled id (i + 1) rest

/-! ### The output queue (R10) -/

def State.outputRoom (s : State) : Bool := decide (s.outQueue.length < Config.outputPlaces)

/-- A segment is placed at the tail of the output queue; its name is `nextId`. -/
def State.placeSegment (s : State) (kind : SegmentKind) (addr : Nat) (payload : Payload) : State :=
  { s with
    outQueue := s.outQueue ++ [{ id := s.nextId, kind := kind, addr := addr, payload := payload }]
    nextId := s.nextId + 1 }

/-- The write placed last of those not yet written: the newest in the output queue, else the one in flight. -/
def State.newestWrite (s : State) : Option Nat :=
  match (s.outQueue.filter fun x => x.payload.isWrite).getLast? with
  | some x => some x.id
  | none =>
    match s.port with
    | none => none
    | some f =>
      match f.origin with
      | .path id _ => if f.wanted && f.payload.isWrite then some id else none
      | .fetch => none
      | .record => none
      | .priority _ _ => none
      | .ordinary _ _ => none
      | .fill => none

/-- The mailbox outstanding indication stands for the write placed last (R10, R27): after a mailbox write, that write itself; after a
LOAD sent by its row, whose record has placed none, every write placed before it (log 4). -/
def State.awaitWrites (s : State) : State :=
  match s.newestWrite with
  | some id => { s with mailboxOutstanding := some id }
  | none => s

/-! ### Write pieces (R50 to R56) -/

/-- A dropped NO-LAYOUT or OUTSIDE lane (R50). -/
def State.dropOrphan (s : State) : State := (s.count .orphan 1).report .orphan

/-- A dropped PADDING lane (R50). -/
def State.dropPadding (s : State) : State := s.count .padding 1

/-- The translator goes on with the lanes of a write piece: dropped lanes are counted as they are met, up to the next segment or
insert, which comes in hand gained; IDLE when no lane is left (R51, R56). -/
def State.takeInHand (s : State) (plane : Plane) (layout : Option Layout) : List LaneStep → State
  | [] => { s with translator := .idle }
  | .orphan :: rest => s.dropOrphan.takeInHand plane layout rest
  | .padding :: rest => s.dropPadding.takeInHand plane layout rest
  | .run _ _ lanes :: rest =>
    let spine := s.boundSpine plane
    { s.reportSaturations (runReports spine lanes) with
      translator := .writing
        { plane := plane, layout := layout, todo := rest,
          hand := .segment (runAddr (planeBase s.fb plane) lanes) (runBeats spine lanes) } }
  | .turned lane :: rest =>
    let spine := s.boundSpine plane
    { s.reportSaturations (laneReports spine lane.x lane.bytes) with
      translator := .writing
        { plane := plane, layout := layout, todo := rest,
          hand := .insert (insertOf layout spine plane (planeBase s.fb plane) lane) false } }

/-! ### Read pieces (R57 to R62) -/

/-- The enquiry for the next segment of the read plan (R60, R88): priority requests for what the table and the ordinary queue
hold, and READ-HELD on every write held, or READ-ISSUE when nothing is held. An empty plan leaves READ-WAIT. -/
def State.enquire (s : State) (job : ReadJob) : State :=
  match job.plan with
  | [] => { s with translator := .readWait job }
  | p :: _ =>
    let keys := p.keys job.plane
    match s.collector.heldFor keys with
    | [] => { s with translator := .readIssue job }
    | matched => { s with collector := s.collector.requestPriority keys, translator := .readHeld job matched }

/-- A translated read segment is placed and the next one asked about (R60). -/
def State.placeRead (s : State) (job : ReadJob) : State :=
  match job.plan with
  | [] => s
  | p :: rest => (s.placeSegment (.translated p.index) p.addr (.read p.beats)).enquire { job with plan := rest }

/-! ### Pieces (R6, R43) -/

/-- The aperture offset of a piece's first beat (R44). -/
def State.offsetOf (s : State) (plane : Plane) (addr : Nat) : Nat := addr - planeBase s.fb plane

/-- The router hands an aperture piece to the translator, which takes the plane's binding and layout (R43). A write piece is
carried to its first segment or insert; a read piece to its first enquiry, its zero lanes answered. -/
def State.translatePiece (s : State) (plane : Plane) (piece : Piece) (response : Option Nat) : State :=
  let layout := s.boundLayout plane
  let o := s.offsetOf plane piece.addr
  match piece.payload with
  | .write beats => s.takeInHand plane layout (laneSteps layout (lanesFrom o beats))
  | .read beats =>
    let id := response.getD 0
    let (plan, assembly) := readPlan layout (planeBase s.fb plane) o beats
    let s' := (s.setAssembled id piece.first assembly).sendUpstream
    match plan with
    | [] => { s' with translator := .idle }
    | _ :: _ =>
      s'.enquire { plane := plane, layout := layout, response := id, first := piece.first, plan := plan, assembly := assembly }

/-- The router works on the first of the pieces left: a pass piece waits to be placed, an aperture piece goes to the translator,
and is handed on at once if nothing of it has to wait. With no piece left the router has finished (R6). -/
def State.workOn (s : State) (hold : RouterHold) : List Piece → State
  | [] => { s with router := none }
  | p :: rest =>
    let s' := { s with router := some { hold with pieces := p :: rest } }
    match p.region with
    | .aperture plane =>
      let s'' := s'.translatePiece plane p hold.response
      if s''.translator = .idle then s''.workOn hold rest else s''
    | .below => s'
    | .descriptor => s'
    | .direct => s'
    | .above => s'

/-- The piece in hand has been handed on: the router goes on with the next (R6). -/
def State.pieceHandedOn (s : State) : State :=
  match s.router with
  | none => s
  | some hold => s.workOn hold hold.pieces.tail

/-- Handed on if the translator has become IDLE. -/
def State.handedOnIfIdle (s : State) : State := if s.translator = .idle then s.pieceHandedOn else s

/-- The translator goes on with a write piece after its segment was placed or its insert taken. -/
def State.goOn (s : State) (job : WriteJob) : State := (s.takeInHand job.plane job.layout job.todo).handedOnIfIdle

/-! ### Inserts (R55, R82) -/

/-- The insert in hand reaches the collector: taken, or left waiting; an eviction is counted (R80 to R82). -/
def State.offerInsert (s : State) (job : WriteJob) (i : Insert) : State :=
  let a := s.collector.insert i s.nextId (decide (s.front.link = .sleepDrain))
  let s' := { s with collector := a.collector, nextId := if a.created then s.nextId + 1 else s.nextId }
  let s'' := if a.evicted then s'.count .eviction 1 else s'
  if a.taken then s''.goOn job
  else { s'' with translator := .writing { job with hand := .insert i true } }

/-- An insert that waits is taken as soon as the table has room (R82, R86). -/
def State.retryInsert (s : State) : State :=
  match s.translator with
  | .writing job =>
    match job.hand with
    | .insert i true => if s.collector.tableRoom then s.offerInsert job i else s
    | .insert _ false => s
    | .segment _ _ => s
  | .idle => s
  | .readIssue _ => s
  | .readHeld _ _ => s
  | .readWait _ => s

/-! ### Held reads (R61) -/

/-- Matched writes have been written; when none is left the held segment is placed without a second enquiry, if the output queue
has room. -/
def State.releaseRead (s : State) (id : Nat) : State :=
  match s.translator with
  | .readHeld job matched =>
    match matched.filter (· ≠ id) with
    | [] => if s.outputRoom then s.placeRead job else { s with translator := .readIssue job }
    | left => { s with translator := .readHeld job left }
  | .idle => s
  | .writing _ => s
  | .readIssue _ => s
  | .readWait _ => s

/-! ### Returned data (R62, R154) -/

def ReadJob.fill (job : ReadJob) (segment beat : Nat) (data : DataBeat) : ReadJob :=
  { job with assembly := job.assembly.map fun q => q.map (LaneSource.fill segment beat data) }

/-- The translator with its read job changed. -/
def Translator.mapRead (f : ReadJob → ReadJob) : Translator → Translator
  | .idle => .idle
  | .writing job => .writing job
  | .readIssue job => .readIssue (f job)
  | .readHeld job matched => .readHeld (f job) matched
  | .readWait job => .readWait (f job)

def Translator.readJob? : Translator → Option ReadJob
  | .idle => none
  | .writing _ => none
  | .readIssue job => some job
  | .readHeld job _ => some job
  | .readWait job => some job

/-- The read plan is empty and every segment's data has returned: the piece is handed on (R62). -/
def State.finishRead (s : State) : State :=
  match s.translator with
  | .readWait job => if assemblyComplete job.assembly then { s with translator := .idle }.pieceHandedOn else s
  | .idle => s
  | .writing _ => s
  | .readIssue _ => s
  | .readHeld _ _ => s

/-- A beat of a translated read segment fills the assembly map, and through it the response list. -/
def State.assemble (s : State) (segment beat : Nat) (data : DataBeat) : State :=
  let s' := { s with translator := s.translator.mapRead fun job => job.fill segment beat data }
  match s'.translator.readJob? with
  | none => s'
  | some job => (s'.setAssembled job.response job.first job.assembly).sendUpstream.finishRead

/-! ### Soft reset of the request path (R17) -/

/-- The beats of an entry not yet sent, as zero bytes. -/
def zeroRest (r : Response) : List DataBeat := List.replicate (r.beats.length - r.sent) (Quad.replicate (Quad.replicate 0))

/-- The zero answer to a read still in the inbound queue; a write has none. -/
def zeroAnswer (r : Request) : List DataBeat :=
  match r.payload with
  | .write _ => []
  | .read beats => List.replicate beats.length (Quad.replicate (Quad.replicate 0))

def State.answerZeros (s : State) : State :=
  { s with sentUpstream := s.sentUpstream ++ s.responses.flatMap zeroRest ++ s.inbound.flatMap zeroAnswer, responses := [] }

/-- What both resets discard of the link side's queues and the translator (R16, R17, R63). -/
def State.emptyPath (s : State) : State :=
  { s with
    inbound := []
    router := none
    outQueue := []
    mailboxOutstanding := none
    responses := []
    translator := .idle }

end Sys2Proof.Machine
end

