-- ==== Sys2Proof/Machine/Tracker.lean ====
section
/-! DEFINITION. The fold tracker's arithmetic (07_the_fold_tracker.md): conversion, health, pair comparison, fusion, mode,
classification and dwell, on the tracker's own state. -/

namespace Sys2Proof.Machine

/-! ### Conversion (R120, R121) -/

/-- What a completed transfer comes to (R120): the code of a good read, or a miss. -/
def readOutcome (acknowledged : Bool) (first second : Byte) : Option Nat :=
  if acknowledged && first.getLsbD 7 then some (256 * (first.toNat % 16) + second.toNat) else none

def rawAngle (code : Nat) : Nat := code * 225 / 256

/-- The angle with the sensor's offset before it is limited. -/
def offsetAngle (code : Nat) (offset : Int) : Int := (rawAngle code : Int) + offset

/-- The reading: a sum below 0 is taken as 0 and one above 1800 as 1800. -/
def reading (code : Nat) (offset : Int) : Nat := (max 0 (min 1800 (offsetAngle code offset))).toNat

def readingClamped (code : Nat) (offset : Int) : Bool :=
  decide (offsetAngle code offset < 0) || decide (1800 < offsetAngle code offset)

/-- The clamp reports of an outcome: a miss sends none. -/
def clampReports (outcome : Option Nat) (offset : Int) : Nat :=
  match outcome with
  | none => 0
  | some code => if readingClamped code offset then 1 else 0

/-! ### Health (R122) -/

def Sensor.update (x : Sensor) (outcome : Option Nat) : Sensor :=
  match outcome with
  | some _ =>
    let goods := min 2 (x.goods + 1)
    { x with misses := 0, goods := goods, good := x.good || decide (goods = 2) }
  | none =>
    let misses := min 3 (x.misses + 1)
    { x with goods := 0, misses := misses, good := x.good && decide (misses ≠ 3) }

/-- The usable reading of a sensor after its health update (7.1). -/
def Sensor.usable (x : Sensor) (outcome : Option Nat) : Option Nat :=
  match outcome with
  | some code => if x.good then some (reading code x.offset) else none
  | none => none

/-! ### Pair comparison and fusion (R123, R124) -/

/-- |a - b|. -/
def angleGap (a b : Nat) : Nat := (a - b) + (b - a)

def pairAgrees (limit a b : Nat) : Bool := decide (angleGap a b ≤ limit)

/-- R123, for a compared sample. -/
def Tracker.compare (t : Tracker) (agrees : Bool) : Tracker :=
  match t.pair, agrees with
  | .agree, true => { t with disagreeing := 0 }
  | .agree, false =>
    if t.disagreeing + 1 = 4 then { t with pair := .disagree, disagreeing := 0, agreeing := 0 }
    else { t with disagreeing := t.disagreeing + 1 }
  | .disagree, false => { t with agreeing := 0 }
  | .disagree, true =>
    if t.agreeing + 1 = 4 then { t with pair := .agree, disagreeing := 0, agreeing := 0 }
    else { t with agreeing := t.agreeing + 1 }

/-- R123: a sample in which both sensors give usable readings is compared. -/
def Tracker.compareReadings (t : Tracker) (r0 r1 : Option Nat) : Tracker :=
  match r0, r1 with
  | some a, some b => t.compare (pairAgrees t.agreementLimit a b)
  | none, _ => t
  | some _, none => t

/-- R124, with the pair state after R123. -/
def Tracker.fuse (t : Tracker) (r0 r1 : Option Nat) : Option Nat :=
  match t.pair with
  | .disagree => none
  | .agree =>
    match r0, r1 with
    | some a, some b => if pairAgrees t.agreementLimit a b then some ((a + b) / 2) else none
    | some a, none => some a
    | none, some b => some b
    | none, none => none

/-! ### Mode (R125) -/

def Tracker.nextMode (t : Tracker) : TrackerMode :=
  match t.sensor0.good, t.sensor1.good with
  | false, false =>
    match t.mode with
    | .acquire => .acquire
    | .dual => .held
    | .single => .held
    | .held => .held
  | true, true =>
    match t.pair with
    | .agree => .dual
    | .disagree => .held
  | true, false =>
    match t.pair with
    | .agree => .single
    | .disagree => .held
  | false, true =>
    match t.pair with
    | .agree => .single
    | .disagree => .held

/-! ### Classification and dwell (R126 to R128) -/

/-- R126, with the latch level low. -/
def Tracker.classify (t : Tracker) (a : Nat) : Posture :=
  match t.settled with
  | some .CLOSED => if a ≤ t.closedExit then .CLOSED else if a < t.openEnter then .PARTIAL else .OPEN
  | some .OPEN => if t.openExit ≤ a then .OPEN else if t.closedEnter < a then .PARTIAL else .CLOSED
  | some .PARTIAL => if a ≤ t.closedEnter then .CLOSED else if a < t.openEnter then .PARTIAL else .OPEN
  | none => if a ≤ t.closedEnter then .CLOSED else if a < t.openEnter then .PARTIAL else .OPEN

/-- R126: while the latch level is high the candidate is CLOSED. -/
def Tracker.candidateOf (t : Tracker) (latch : Bool) (a : Nat) : Posture := if latch then .CLOSED else t.classify a

/-- The count a candidate reaches (R127). -/
def Tracker.dwellCount (t : Tracker) (p : Posture) : Nat :=
  match t.candidate with
  | some (q, n) => if q = p then n + 1 else 1
  | none => 1

/-- R127. -/
def Tracker.dwellOn (t : Tracker) (p : Posture) : Tracker :=
  if t.settled = some p then { t with candidate := none }
  else if t.dwell ≤ t.dwellCount p then { t with settled := some p, candidate := none }
  else { t with candidate := some (p, t.dwellCount p) }

/-! ### Evaluation (R119) -/

/-- Steps 1 and 2: health of both sensors. -/
def Tracker.updateHealth (t : Tracker) (o0 o1 : Option Nat) : Tracker :=
  { t with sensor0 := t.sensor0.update o0, sensor1 := t.sensor1.update o1 }

/-- Steps 3 to 5 of an evaluation, and the fused angle. -/
def Tracker.judge (t : Tracker) (o0 o1 : Option Nat) : Tracker × Option Nat :=
  let t1 := t.updateHealth o0 o1
  let r0 := t1.sensor0.usable o0
  let r1 := t1.sensor1.usable o1
  let t2 := t1.compareReadings r0 r1
  let fused := t2.fuse r0 r1
  let t3 := match fused with
    | some a => { t2 with lastFused := some a }
    | none => t2
  ({ t3 with mode := t3.nextMode }, fused)

/-- Step 6: a sample that yields no fused angle is not classified (R128). -/
def Tracker.settleBy (t : Tracker) (latch : Bool) : Option Nat → Tracker
  | none => t
  | some a => t.dwellOn (t.candidateOf latch a)

/-- The tracker after the evaluation of a sample; the sample has ended. -/
def Tracker.evaluate (t : Tracker) (latch : Bool) (o0 o1 : Option Nat) : Tracker :=
  { (t.judge o0 o1).1.settleBy latch (t.judge o0 o1).2 with sample := .none }

/-- One SENSOR report when the health of a sensor, the pair state or the mode changed (R125). -/
def Tracker.sensorReport (before after : Tracker) : Bool :=
  decide (before.sensor0.good ≠ after.sensor0.good) || decide (before.sensor1.good ≠ after.sensor1.good) ||
    decide (before.pair ≠ after.pair) || decide (before.mode ≠ after.mode)

/-- R129: a rising latch edge. -/
def Tracker.latchClosed (t : Tracker) : Tracker := { t with settled := some .CLOSED, candidate := none }

/-- The posture map's entry for a posture (R134). -/
def PostureMap.slotFor (m : PostureMap) : Posture → Option (Fin 8)
  | .CLOSED => m.closed
  | .PARTIAL => m.partly
  | .OPEN => m.opened

end Sys2Proof.Machine
end

