-- ==== Sys2Proof/Machine/Status.lean ====
section
/-! DEFINITION. The status record image (R173, R176, 11.4) and the code values (11.5). -/

namespace Sys2Proof.Machine

def Result.code : Result → Nat
  | .ok => 0
  | .clamped => 1
  | .badCommand => 2
  | .badSlot => 3
  | .badPlane => 4
  | .inUse => 5
  | .inScan => 6
  | .notReady => 7
  | .planeBound => 8
  | .noTarget => 9
  | .state => 10
  | .full => 11
  | .noLayout => 12
  | .badValue => 13
  | .chainRange => 14
  | .chainLong => 15
  | .badRecord => 16
  | .badView => 17
  | .overlap => 18
  | .badSpine => 19
  | .badGuard => 20
  | .aborted => 21

def LinkState.code : LinkState → Nat
  | .resetHold => 0
  | .settle => 1
  | .awake => 2
  | .sleepDrain => 3
  | .asleep => 4

def TrackerMode.code : TrackerMode → Nat
  | .acquire => 0
  | .dual => 1
  | .single => 2
  | .held => 3

def Posture.code : Posture → Nat
  | .CLOSED => 1
  | .PARTIAL => 2
  | .OPEN => 3

def JobKind.code : JobKind → Nat
  | .background => 0
  | .guard => 1
  | .host => 2

/-- Bit n of a byte as a number. -/
def bitAt (n : Nat) (b : Bool) : Nat := if b then 2 ^ n else 0

/-- The tag of the installed or remembered layout, else 0 (R22). -/
def Slot.tag : Slot → Nat
  | .empty => 0
  | .loading (some l) => l.tag
  | .loading none => 0
  | .ready l => l.tag

def Slot.code : Slot → Nat
  | .empty => 0
  | .loading _ => 1
  | .ready _ => 2

def slotBytes (x : Slot) : List Byte := le16 x.tag ++ le8 x.code ++ le8 0

/-- A binding, 0xFF for none. -/
def bindingByte : Option (Fin 8) → Nat
  | some i => i.val
  | none => 0xFF

/-- A posture map entry, 15 for NONE. -/
def mapByte : Option (Fin 8) → Nat
  | some i => i.val
  | none => 15

def planeByte (t : Planes) (p : Plane) : Nat :=
  bitAt 0 (decide (t.scanned = p)) + bitAt 1 (t.entry p).backgroundPending

/-- Offset 0x4C; bits 1 to 3 are 0 while the switch is STEADY. -/
def switchByte : Switch → Nat
  | .steady => 0
  | .armed r =>
    bitAt 0 true + bitAt 1 (decide (r.cause = .auto)) + bitAt 2 r.selectMoved + bitAt 3 (decide (r.target = .B))

def jobByte (jobs : List FillJob) (j : Nat) : Nat :=
  match jobs[j]? with
  | none => 0
  | some x => bitAt 0 (decide (x.plane = .B)) + 2 * x.kind.code

/-- Two's complement in 16 bits (11.1). -/
def signed16 (x : Int) : Nat := (BitVec.ofInt 16 x).toNat

def counterBytes (c : Counters) : List Byte :=
  le16 c.orphan ++ le16 c.padding ++ le16 c.saturation ++ le16 c.eviction ++ le16 c.clampedSamples ++ le16 c.lateSwaps ++
    le16 c.abandonedSwaps ++ le16 c.rejectedRecords

/-- Offsets 0x00 to 0x27. -/
def State.imageHead (s : State) : List Byte :=
  [s.decoder.lastCommand] ++ le8 s.decoder.lastResult.code ++ le8 (bitAt 0 s.decoder.busy) ++ le8 s.front.link.code ++
    le16 s.decoder.taken.toNat ++ le16 0 ++ le16 s.status.flags.toNat ++ le16 s.status.mask.toNat ++ le32 0 ++
    counterBytes s.status.counters ++ le8 s.front.highWater ++ le8 s.front.settleSetting ++ le8 s.collector.ageInterval ++ le8 0 ++
    le16 s.planes.swapLimit ++ le16 0

/-- Offsets 0x28 to 0x4F. -/
def State.imagePlanes (s : State) : List Byte :=
  s.layouts.slots.toList.flatMap slotBytes ++ le8 (bindingByte s.planes.a.binding) ++ le8 (planeByte s.planes .A) ++
    le8 (bindingByte s.planes.b.binding) ++ le8 (planeByte s.planes .B) ++ le8 (switchByte s.planes.switch) ++
    le8 (bitAt 0 (decide (s.planes.select = .B)) + bitAt 1 s.frame.scanStopped) ++ le16 s.frame.counter.toNat

/-- Offsets 0x50 to 0x6B. -/
def State.imageTracker (s : State) : List Byte :=
  let t := s.tracker
  le8 (bitAt 0 t.sensor0.good + bitAt 1 t.sensor1.good + bitAt 2 (decide (t.pair = .disagree)) + bitAt 3 s.pins.closedLatch) ++
    le8 t.mode.code ++ le8 (match t.settled with | some p => p.code | none => 0) ++
    le8 (match t.candidate with | some (p, _) => p.code | none => 0) ++
    le8 (match t.candidate with | some (_, n) => n | none => 0) ++ le8 t.dwell ++
    le16 (match t.lastFused with | some a => a | none => 0xFFFF) ++ le16 t.closedEnter ++ le16 t.closedExit ++
    le16 t.openExit ++ le16 t.openEnter ++ le16 t.agreementLimit ++ le16 (signed16 t.sensor0.offset) ++
    le16 (signed16 t.sensor1.offset) ++ le8 t.period ++ le8 0 ++ le8 (mapByte t.map.closed) ++ le8 (mapByte t.map.partly) ++
    le8 (mapByte t.map.opened) ++ le8 0

/-- Offsets 0x6C to 0x7F. -/
def State.imageFill (s : State) : List Byte :=
  let jobs := s.fill.jobs
  le8 jobs.length ++ le8 (bitAt 0 s.fill.paused) ++ le16 0 ++ le8 (jobByte jobs 0) ++ le8 (jobByte jobs 1) ++ le8 (jobByte jobs 2) ++
    le8 (jobByte jobs 3) ++ le32 (match jobs with | j :: _ => j.beatsWritten | [] => 0) ++ List.replicate 8 0

/-- The 128 bytes of the status record, from the values standing at its grant (R173, R176). -/
def State.image (s : State) : List Byte := s.imageHead ++ s.imagePlanes ++ s.imageTracker ++ s.imageFill

/-- The image as the eight beats of its write, every byte enabled (R152). -/
def State.imageBeats (s : State) : List MaskedBeat := (beatsOf s.image 8).map DataBeat.masked

end Sys2Proof.Machine
end

