-- ==== Sys2Proof/Machine/Fill.lean ====
section
/-! DEFINITION. The fill engine (08_the_fill_engine.md): regions and the sweep, bursts, how jobs join, end and pause. -/

namespace Sys2Proof.Machine

/-! ### Regions and the sweep (R139, R140) -/

/-- A pixel of the region swept in one rectangle: inside it and in no view left out (R139). -/
def inRegion (r : Rect) (holes : List Rect) (x y : Nat) : Bool := r.covers x y && !holes.any (·.covers x y)

/-- A region beat of a row (8.1). -/
def regionBeat (r : Rect) (holes : List Rect) (y b : Nat) : Bool :=
  inRegion r holes (4 * b) y || inRegion r holes (4 * b + 1) y || inRegion r holes (4 * b + 2) y || inRegion r holes (4 * b + 3) y

/-- From column x on, the first column in no hole of the row, passing at most n holes. -/
def skipHoles (holes : List Rect) (y : Nat) : Nat → Nat → Nat
  | 0, x => x
  | n + 1, x =>
    match holes.find? (·.covers x y) with
    | none => x
    | some h => skipHoles holes y n (h.x + h.width)

/-- The first region beat of a row at or after beat b. -/
def nextBeatInRow (r : Rect) (holes : List Rect) (y b : Nat) : Option Nat :=
  let x := skipHoles holes y holes.length (max r.x (4 * b))
  if x < r.x + r.width then some (x / 4) else none

/-- The first region beat at or after a row and beat, over n rows. -/
def nextBeat (r : Rect) (holes : List Rect) : Nat → Nat → Nat → Option (Nat × Nat)
  | 0, _, _ => none
  | n + 1, y, b =>
    match nextBeatInRow r holes y b with
    | some b' => some (y, b')
    | none => nextBeat r holes n (y + 1) 0

/-- The first region beat of rectangles in order; the first of them has index i. -/
def firstCursor (holes : List Rect) : Nat → List Rect → Option Cursor
  | _, [] => none
  | i, r :: rest =>
    match nextBeat r holes r.height r.y 0 with
    | some (y, b) => some { rect := i, row := y, beat := b }
    | none => firstCursor holes (i + 1) rest

/-- The region beat at or after a beat of the cursor's row: in its rectangle, else in the rectangles after it (R140). -/
def cursorFrom (rects holes : List Rect) (c : Cursor) (beat : Nat) : Option Cursor :=
  match rects.drop c.rect with
  | [] => none
  | r :: rest =>
    match nextBeat r holes (r.y + r.height - c.row) c.row beat with
    | some (y, b) => some { rect := c.rect, row := y, beat := b }
    | none => firstCursor holes (c.rect + 1) rest

/-- How many consecutive region beats stand from beat b, at most n (R140). -/
def runLength (r : Rect) (holes : List Rect) (y : Nat) : Nat → Nat → Nat
  | 0, _ => 0
  | n + 1, b => if regionBeat r holes y b then runLength r holes y n (b + 1) + 1 else 0

/-- The bytes of one pixel of a fill burst (R140, R141): the colour, gained, in a region lane, and nothing in any other. -/
def fillLane (spine : Option Spine) (r : Rect) (holes : List Rect) (colour : Colour) (y x : Nat) : MaskedLane :=
  if inRegion r holes x y then gainLane spine x (colour.map some) else noBytes

def fillReports (spine : Option Spine) (r : Rect) (holes : List Rect) (colour : Colour) (y x : Nat) : Nat :=
  if inRegion r holes x y then laneReports spine x (colour.map some) else 0

def fillBeats (spine : Option Spine) (r : Rect) (holes : List Rect) (colour : Colour) (y b n : Nat) : List MaskedBeat :=
  (List.range n).map fun j => Quad.ofFn fun k => fillLane spine r holes colour y (4 * (b + j) + k)

/-- The saturation reports of n columns from column x (R141). -/
def fillReportsFrom (spine : Option Spine) (r : Rect) (holes : List Rect) (colour : Colour) (y x : Nat) : Nat → Nat
  | 0 => 0
  | n + 1 => fillReportsFrom spine r holes colour y x n + fillReports spine r holes colour y (x + n)

/-! ### Working on the head job -/

/-- The engine builds bursts and starts jobs in AWAKE, or in SLEEP-DRAIN without a pause in effect (R138). -/
def State.fillMayWork (s : State) : Bool := s.front.link.active && !s.fill.paused && !s.fill.pauseAsked

def State.setJobs (s : State) (jobs : List FillJob) : State := { s with fill := { s.fill with jobs := jobs } }

def State.setPending (s : State) (p : Plane) (mark : Bool) : State :=
  { s with planes := s.planes.setEntry p { s.planes.entry p with backgroundPending := mark } }

/-- R146: the head job leaves the queue, FILL-DONE is reported, and a BACKGROUND job clears its plane's mark. -/
def State.completeJob (s : State) (job : FillJob) (rest : List FillJob) : State :=
  let s' := (s.setJobs rest).report .fillDone
  match job.kind with
  | .background => s'.setPending job.plane false
  | .guard => s'
  | .host => s'

/-- R138: what a job reads of the layout at its start. A HOST job reads nothing. -/
def FillJob.read (job : FillJob) (layout : Option Layout) : FillJob :=
  match job.kind, layout with
  | .background, some l =>
    { job with
      colour := some l.background
      rects := [{ x := 0, y := 0, width := Config.panelColumns, height := Config.panelRows }]
      holes := l.views.map View.panelRect }
  | .guard, some l =>
    match l.guard with
    | some g => { job with colour := some g.colour, rects := g.rects }
    | none => job
  | .background, none => job
  | .guard, none => job
  | .host, _ => job

/-- R141: the next burst of the head job is built and taken in hand, with its saturation reports. -/
def State.buildBurst (s : State) (job : FillJob) (c : Cursor) : State :=
  let r := job.rects.getD c.rect { x := 0, y := 0, width := 0, height := 0 }
  let colour := job.colour.getD (Quad.replicate 0)
  let spine := s.boundSpine job.plane
  let n := runLength r job.holes c.row 16 c.beat
  let burst : FillBurst :=
    { addr := planeBase s.fb job.plane + c.row * Config.rowPitch + c.beat * 16,
      beats := fillBeats spine r job.holes colour c.row c.beat n, granted := false, cancelled := false }
  { s with fill := { s.fill with burst := some burst } }.reportSaturations
    (fillReportsFrom spine r job.holes colour c.row (4 * c.beat) (4 * n))

/-- R138: the head job starts: it reads its region and colour, its cursor goes to the first region beat and the first burst is
built; a job whose region holds no pixel completes at once. -/
def State.startJob (s : State) (job : FillJob) (rest : List FillJob) : State :=
  let job' := job.read (s.boundLayout job.plane)
  match firstCursor job'.holes 0 job'.rects with
  | none => s.completeJob job' rest
  | some c =>
    let job'' := { job' with cursor := some c, beatsWritten := 0 }
    (s.setJobs (job'' :: rest)).buildBurst job'' c

/-- R138: the head job is taken up when the engine may work and holds no burst: started, or gone on with from its cursor. -/
def State.takeUpJob (s : State) : State :=
  if s.fillMayWork && s.fill.burst.isNone then
    match s.fill.jobs with
    | [] => s
    | job :: rest =>
      match job.cursor with
      | none => s.startJob job rest
      | some c => s.buildBurst job c
  else s

/-- The engine goes on with a job that had started (R149); a job that has not started waits for its start (log 20). -/
def State.resumeJob (s : State) : State :=
  match s.fill.jobs with
  | [] => s
  | job :: _ =>
    match job.cursor with
    | none => s
    | some _ => s.takeUpJob

/-- R149: a pause asked that waited for the burst in hand takes effect. -/
def State.settlePause (s : State) : State :=
  if s.fill.pauseAsked then { s with fill := { s.fill with paused := true, pauseAsked := false } } else s

/-- R142, R146: the head job's burst of n beats has been written. Count and cursor move; the job completes or its next burst is
built, unless a pause was asked. -/
def State.jobAdvanced (s : State) (job : FillJob) (rest : List FillJob) (n : Nat) : State :=
  match job.cursor with
  | none => s.settlePause
  | some c =>
    let job' := { job with beatsWritten := job.beatsWritten + n }
    match cursorFrom job.rects job.holes c (c.beat + n) with
    | none => (s.completeJob job' rest).settlePause
    | some c' =>
      let job'' := { job' with cursor := some c' }
      let s' := (s.setJobs (job'' :: rest)).settlePause
      if s'.fillMayWork then s'.buildBurst job'' c' else s'

/-- R142, R147, R149: the burst in hand has been written. One whose job was cancelled moves no job; the head job, if any, waits for
its start (log 20). -/
def State.fillWritten (s : State) : State :=
  match s.fill.burst with
  | none => s
  | some b =>
    let s' := { s with fill := { s.fill with burst := none } }
    if b.cancelled then s'.settlePause
    else
      match s.fill.jobs with
      | [] => s'.settlePause
      | job :: rest => s'.jobAdvanced job rest b.beats.length

/-! ### Joining, pausing, cancelling -/

def newJob (p : Plane) (kind : JobKind) : FillJob :=
  { plane := p, kind := kind, rects := [], holes := [], colour := none, cursor := none, beatsWritten := 0 }

def State.fillFull (s : State) : Bool := decide (Config.fillPlaces ≤ s.fill.jobs.length)

/-- R143: a BACKGROUND job joins and its plane becomes background-pending. -/
def State.joinBackground (s : State) (p : Plane) : State := (s.setJobs (s.fill.jobs ++ [newJob p .background])).setPending p true

/-- R144, R113: a GUARD request is merged, accepted, or refused with GUARD-DROPPED. -/
def State.requestGuard (s : State) (p : Plane) : State :=
  if s.fill.jobs.any fun j => decide (j.plane = p) && decide (j.kind = .guard) then s
  else if s.fillFull then s.report .guardDropped
  else s.setJobs (s.fill.jobs ++ [newJob p .guard])

/-- R149: the pause asked on entry to SLEEP-DRAIN takes effect at once, or once the burst in hand has been written. -/
def State.askPause (s : State) : State :=
  match s.fill.burst with
  | none => { s with fill := { s.fill with paused := true, pauseAsked := false } }
  | some _ => { s with fill := { s.fill with pauseAsked := true } }

/-- R149: the pause ends and the head job is gone on with. -/
def State.endPause (s : State) : State := { s with fill := { s.fill with paused := false, pauseAsked := false } }.resumeJob

/-- R147, R148, R151: of a cancelled head job, a burst offered is withdrawn, and one granted stays in hand until it has been written. -/
def State.cancelBurst (s : State) : State :=
  match s.fill.burst with
  | none => s
  | some b => { s with fill := { s.fill with burst := if b.granted then some { b with cancelled := true } else none } }

/-- R147: every job of a plane is cancelled; a cancelled BACKGROUND job clears the plane's mark. A pause that waited for a burst now
withdrawn takes effect at once (R149). -/
def State.cancelJobs (s : State) (p : Plane) : State :=
  let background := s.fill.jobs.any fun j => decide (j.plane = p) && decide (j.kind = .background)
  let s' :=
    match s.fill.jobs with
    | [] => s
    | job :: _ => if job.plane = p then s.cancelBurst else s
  let s'' := s'.setJobs (s.fill.jobs.filter fun j => j.plane ≠ p)
  let s3 := if background then s''.setPending p false else s''
  if s3.fill.pauseAsked && s3.fill.burst.isNone then s3.settlePause else s3

/-- R148: a link reset and a soft reset cancel every job as R147 lays down, clear both marks and end a pause, unless the engine is left
PAUSED (a soft reset in SLEEP-DRAIN, log 29). -/
def State.cancelAllJobs (s : State) (leavePaused : Bool) : State :=
  let s' := { s with fill := { s.cancelBurst.fill with jobs := [], paused := leavePaused, pauseAsked := false } }
  (s'.setPending .A false).setPending .B false

end Sys2Proof.Machine
end

