-- ==== Sys2Proof/Machine/Swap.lean ====
section
/-! DEFINITION. The planes and swap controller (06_planes_and_the_swap.md): arming, the drain, the swap, withdrawal,
re-evaluation. -/

namespace Sys2Proof.Machine

/-! ### Arming and the drain (R103, R104) -/

/-- The plane's flush write in flight, if the collector still waits for it (R89). One whose source a reset has emptied is in no
later drain set (the model's choice, log 32). -/
def Flight.flushOf (p : Plane) (f : Flight) : List Nat :=
  match f.origin with
  | .priority id key => if f.wanted && decide (key.plane = p) then [id] else []
  | .ordinary id key => if f.wanted && decide (key.plane = p) then [id] else []
  | .fetch => []
  | .record => []
  | .path _ _ => []
  | .fill => []

/-- The plane's straight segment in flight (R104). One that an earlier reset has left to complete for no one is in no later
snapshot: R114 has the drain complete at once and R158 has its completion reported to no block (the model's choice, log 32). -/
def Flight.straightOf (p : Plane) (f : Flight) : List Nat :=
  match f.origin with
  | .path id (.straight q) => if f.wanted && decide (q = p) then [id] else []
  | .path _ (.pass _) => []
  | .path _ (.translated _) => []
  | .fetch => []
  | .record => []
  | .priority _ _ => []
  | .ordinary _ _ => []
  | .fill => []

def State.flying (s : State) (f : Flight → List Nat) : List Nat :=
  match s.port with
  | none => []
  | some x => f x

def Segment.straightOn (p : Plane) (x : Segment) : Bool := decide (x.kind = .straight p)

/-- The straight segments of a plane in the output queue and in flight (R104). -/
def State.straightSegments (s : State) (p : Plane) : List Nat :=
  s.flying (Flight.straightOf p) ++ (s.outQueue.filter (Segment.straightOn p)).map (·.id)

def State.setSwitch (s : State) (w : Switch) : State := { s with planes := { s.planes with switch := w } }

/-- The switch is armed towards the IDLE plane and the drain snapshot is taken (R103, R104). The commit time is named by
`nextId`. -/
def State.arm (s : State) (cause : ArmCause) : State :=
  let target := s.planes.idle
  let c := s.collector.drain target s.nextId (s.flying (Flight.flushOf target))
  let r : ArmRecord :=
    { cause := cause, target := target, commit := s.nextId, limit := s.planes.swapLimit,
      collectorWaiting := c.draining s.nextId, pathWaiting := s.straightSegments target, selectMoved := false }
  { s with collector := c, nextId := s.nextId + 1, planes := { s.planes with switch := .armed r } }

/-- Drain complete: all three parts (R104). -/
def State.drainComplete (s : State) (r : ArmRecord) : Bool :=
  !r.collectorWaiting && r.pathWaiting.isEmpty && !(s.planes.entry r.target).backgroundPending

/-- A drain set has been reported: the collector part of the snapshot it serves is complete; a report for any other snapshot is
passed over (R104). -/
def State.noteDrains (s : State) : State :=
  match s.planes.switch with
  | .steady => s
  | .armed r => s.setSwitch (.armed { r with collectorWaiting := r.collectorWaiting && s.collector.draining r.commit })

/-- A segment marked for the drain has been written (R104). -/
def State.noteSegment (s : State) (id : Nat) : State :=
  match s.planes.switch with
  | .steady => s
  | .armed r => s.setSwitch (.armed { r with pathWaiting := r.pathWaiting.filter (· ≠ id) })

/-! ### The swap -/

/-- The select line moves to the target (R99, R105). -/
def State.moveSelect (s : State) (r : ArmRecord) : State :=
  { s with planes := { s.planes with select := r.target, switch := .armed { r with selectMoved := true } } }

/-- The swap is done (R106): roles exchanged, switch STEADY with its record cleared, SWAP-DONE reported. -/
def State.swapDone (s : State) (r : ArmRecord) : State :=
  { s with planes := { s.planes with scanned := r.target, select := r.target, switch := .steady } }.report .swapDone

/-- R110, R108: the switch returns to STEADY without a swap, its record cleared. -/
def State.withdraw (s : State) : State := s.setSwitch .steady

/-! ### Re-evaluation (R111 to R113) -/

def Guard.names (g : Guard) : Posture → Bool
  | .CLOSED => g.onClosed
  | .PARTIAL => g.onPartial
  | .OPEN => g.onOpen

/-- The guard request of the unserved case (R113). -/
def State.guardFor (s : State) (p : Posture) : State :=
  match s.boundLayout s.planes.scanned with
  | none => s
  | some l =>
    match l.guard with
    | none => s
    | some g => if g.names p then s.requestGuard s.planes.scanned else s

/-- R112, the unserved case. -/
def State.unserved (s : State) (p : Posture) : State := (s.report .unserved).guardFor p

/-- How a posture stands served: by the SCANNED plane, by the IDLE plane, or not. -/
inductive Service where
  | scanned
  | idle
  | none
  deriving DecidableEq, Repr

/-- The slot the posture map names, against the bindings (R112). -/
def State.service (s : State) (p : Posture) : Service :=
  match s.tracker.map.slotFor p with
  | .none => .none
  | some i =>
    if (s.planes.entry s.planes.scanned).binding = some i then .scanned
    else if (s.planes.entry s.planes.idle).binding = some i then .idle
    else .none

/-- Re-evaluation of the posture (R111, R112): nothing while the posture is UNKNOWN or the switch is ARMED with cause HOST. -/
def State.reevaluate (s : State) : State :=
  match s.tracker.settled with
  | none => s
  | some p =>
    match s.planes.switch, s.service p with
    | .steady, .scanned => s
    | .steady, .idle => s.arm .auto
    | .steady, .none => s.unserved p
    | .armed r, v =>
      match r.cause, v, r.selectMoved with
      | .host, _, _ => s
      | .auto, .scanned, false => s.withdraw
      | .auto, .scanned, true => s
      | .auto, .idle, _ => s
      | .auto, .none, false => s.withdraw.unserved p
      | .auto, .none, true => s.unserved p

/-- A swap done is followed by re-evaluation (R106, R107). -/
def State.finishSwap (s : State) (r : ArmRecord) : State := (s.swapDone r).reevaluate

/-! ### The swap while scan is stopped (R107) -/

/-- An armed swap that R107 carries out at once: scan stopped, and select moved or drain complete. -/
def State.swapDue (s : State) : Option ArmRecord :=
  match s.planes.switch with
  | .steady => none
  | .armed r => if s.frame.scanStopped && (r.selectMoved || s.drainComplete r) then some r else none

/-- R107, over the swaps one step can carry out: a swap done may be followed by an auto-commit back, itself due at once; the
re-evaluation after that finds the posture served (log 27). -/
def State.settleSwaps : Nat → State → State
  | 0, s => s
  | n + 1, s =>
    match s.swapDue with
    | none => s
    | some r => settleSwaps n (s.finishSwap r)

/-- R114, R115: a reset withdraws an armed swap whose select has not moved, and completes one whose select has; `none` when no
swap was done. -/
def State.resetSwitch (s : State) : State × Bool :=
  match s.planes.switch with
  | .steady => (s, false)
  | .armed r => if r.selectMoved then (s.swapDone r, true) else (s.withdraw, false)

end Sys2Proof.Machine
end

