-- ==== Sys2Proof/Machine/Port.lean ====
section
/-! DEFINITION. The arbiter (09_downstream_port_and_arbitration.md): who offers, who is granted at a choice point, what a grant
does; and what ends every step. -/

namespace Sys2Proof.Machine

/-- The sources, control traffic by its two kinds (R151, R152). -/
inductive Source where
  | fetch
  | record
  | priority
  | path
  | ordinary
  | fill
  deriving DecidableEq, Repr

def Source.number : Source → Nat
  | .fetch => 0
  | .record => 1
  | .priority => 2
  | .path => 3
  | .ordinary => 4
  | .fill => 5

def Ring.source : Ring → Source
  | .path => .path
  | .ordinary => .ordinary
  | .fill => .fill

/-- Ring order (R153). -/
def Ring.next : Ring → Ring
  | .path => .ordinary
  | .ordinary => .fill
  | .fill => .path

/-! ### Offers (R151) -/

def State.fillStands (s : State) : Bool :=
  match s.fill.burst with
  | some b => !b.granted
  | none => false

/-- A source has an offer standing. -/
def State.stands (s : State) : Source → Bool
  | .fetch => s.fetchStands
  | .record => s.recordStands
  | .priority => !s.collector.priority.isEmpty
  | .path => !s.outQueue.isEmpty
  | .ordinary => !s.collector.ordinary.isEmpty
  | .fill => s.fillStands

/-- The write or segment a queue offers is its head; the other sources offer one burst at a time. -/
def State.offerName (s : State) : Source → Option Nat
  | .fetch => none
  | .record => none
  | .priority => s.collector.priority.head?.map (·.id)
  | .path => s.outQueue.head?.map (·.id)
  | .ordinary => s.collector.ordinary.head?.map (·.id)
  | .fill => none

/-! ### The choice (R152, R153) -/

/-- R152: of two control offers, the one offered first. -/
def State.pickControl (s : State) (visible : Source → Bool) : Option Source :=
  match visible .fetch, visible .record with
  | true, true => some (if s.fetchFirst then .fetch else .record)
  | true, false => some .fetch
  | false, true => some .record
  | false, false => none

/-- Step 3 of R153. -/
def pickRing (visible : Source → Bool) (first : Ring) : Option Ring :=
  if visible first.source then some first
  else if visible first.next.source then some first.next
  else if visible first.next.next.source then some first.next.next
  else none

/-- R153, among the visible offers. -/
def State.pick (s : State) (visible : Source → Bool) : Option Source :=
  match s.pickControl visible with
  | some x => some x
  | none => if visible .priority then some .priority else (pickRing visible s.pointer).map Ring.source

/-! ### The grant -/

def fetchBeats (n : Nat) : List EnableBeat := List.replicate n (Quad.replicate (Quad.replicate true))

def State.fly (s : State) (origin : Origin) (addr : Nat) (payload : Payload) : State :=
  { s with port := some { origin := origin, addr := addr, payload := payload, moved := 0, wanted := true } }

/-- R152: a chain fetch reads the whole record. -/
def State.grantFetch (s : State) : State :=
  match s.layouts.load with
  | none => s
  | some l =>
    { s with layouts := { s.layouts with load := some { l with phase := .inFlight, data := [] } } }.fly .fetch
      (s.fb + Config.descriptorOffset + l.offset) (.read (fetchBeats l.kind.beats))

/-- R152, R171: the image is taken at the grant. -/
def State.grantRecord (s : State) : State :=
  (s.setWrite .writing).fly .record (s.fb + Config.descriptorOffset + Config.statusOffset) (.write s.imageBeats)

/-- R79, R87: the head of the priority queue is granted, and the place it leaves is taken. -/
def State.grantPriority (s : State) : State :=
  match s.collector.priority with
  | [] => s
  | w :: rest =>
    { s with collector := { s.collector with priority := rest }.advance }.fly (.priority w.id w.key) w.key.beat (.write [w.data])

/-- R79, R86. -/
def State.grantOrdinary (s : State) : State :=
  match s.collector.ordinary with
  | [] => s
  | w :: rest =>
    { s with collector := { s.collector with ordinary := rest }.advance, pointer := Ring.ordinary.next }.fly
      (.ordinary w.id w.key) w.key.beat (.write [w.data])

/-- R10. -/
def State.grantPath (s : State) : State :=
  match s.outQueue with
  | [] => s
  | x :: rest => { s with outQueue := rest, pointer := Ring.path.next }.fly (.path x.id x.kind) x.addr x.payload

/-- R142, R151: a granted fill burst stays in the engine's hand. -/
def State.grantFill (s : State) : State :=
  match s.fill.burst with
  | none => s
  | some b =>
    { s with fill := { s.fill with burst := some { b with granted := true } }, pointer := Ring.fill.next }.fly .fill b.addr
      (.write b.beats)

/-- A grant (R150, R153); a grant at step 3 moves the pointer to the source after the one granted. -/
def State.grant (s : State) : Source → State
  | .fetch => s.grantFetch
  | .record => s.grantRecord
  | .priority => s.grantPriority
  | .path => s.grantPath
  | .ordinary => s.grantOrdinary
  | .fill => s.grantFill

/-- The grant of the source picked, if any. -/
def State.grantPick (s : State) : Option Source → State
  | none => s
  | some x => s.grant x

/-- A choice point while the port is IDLE (R153). -/
def State.choicePoint (s : State) : State :=
  match s.port with
  | some _ => s
  | none => s.grantPick (s.pick s.stands)

/-- What the choice point of a completion sees (R153, log 6): an offer that stood before the completion, and one that begins to
stand with it as the free value says. The ordinary queue is passed over while the priority queue holds a write (R79). -/
def State.seenAtCompletion (before s : State) (x : Source) : Bool :=
  s.stands x && ((before.stands x && decide (before.offerName x = s.offerName x)) || Config.offerSeen s.freeCount x.number) &&
    (decide (x ≠ .ordinary) || s.collector.priority.isEmpty)

/-- The choice point of a completion. Where it sees no offer, an offer that has begun to stand makes a choice point of its own. -/
def State.completionChoice (before s : State) : State :=
  match s.pick (State.seenAtCompletion before s) with
  | some x => (s.grant x).tickFree
  | none => s.choicePoint.tickFree

/-! ### The end of a step -/

/-- What comes about at once whatever the command was: a swap that is due while scan is stopped (R107), an insert that finds room
(R82), and the choice point of an IDLE port (R153) with the insert its grant makes room for (log 5). -/
def State.conclude (s : State) : State := (State.settleSwaps 2 s).retryInsert.choicePoint.retryInsert

/-- R152: of two control offers begun in the one step either may go first (log 8). -/
def State.orderOffers (before s : State) : State :=
  if s.fetchStands && s.recordStands && !before.fetchStands && !before.recordStands then
    { s with fetchFirst := Config.fetchOfferedFirst s.freeCount }.tickFree
  else s

/-- The end of a step in which a burst has completed. -/
def State.concludeCompletion (before s : State) : State :=
  State.orderOffers before (State.completionChoice before (State.settleSwaps 2 s).retryInsert).retryInsert

/-! ### The answer of a command -/

abbrev Answer := Host.Outcome State Fault Refusal

/-- What a command does itself, by how its step ends: as it is, with what comes about at once after every step (log 5), or with what
comes about when a burst has completed. -/
inductive Act where
  | still (s : State)
  | concluded (s : State)
  | completed (s : State)
  deriving DecidableEq, Repr

/-- The state a command itself leaves. -/
def Act.state : Act → State
  | .still s => s
  | .concluded s => s
  | .completed s => s

/-- The answer of a command given in the state `before`. -/
def Act.answer (before : State) : Act → Answer
  | .still s => .next s
  | .concluded s => .next s.conclude
  | .completed s => .next (State.concludeCompletion before s)

end Sys2Proof.Machine
end

