-- ==== Sys2Proof/Machine/Mailbox.lean ====
section
/-! DEFINITION. The mailbox decoder (10_mailbox_status_record_and_events.md R160 to R166): the judgement of a control record and
what each command does once taken. -/

namespace Sys2Proof.Machine

/-! ### LOAD and UNLOAD (R26, R42) -/

/-- R26: the load begins; its chain cursor stands at the HEAD with nothing fetched, and the HEAD fetch waits for every write placed
before it (R27). -/
def State.beginLoad (s : State) (i : Fin 8) (offset : Nat) : State :=
  let s' := (s.setSlot i (.loading s.layouts.slots[i].layout?)).awaitWrites
  { s' with
    layouts :=
      { s'.layouts with
        load :=
          some { slot := i, offset := offset, kind := .head, fetched := 0, staging := Staging.cleared, phase := .waiting, data := [] } }
    decoder := { s'.decoder with busy := true } }

/-- R26, check 3. -/
def chainOffsetOk (offset : Nat) : Bool := decide (offset % 32 = 0) && decide (0x200 ≤ offset) && decide (offset ≤ 0xFFE0)

/-- A LOAD that begins records no result until it ends (R26, R163). -/
def State.takeLoad (slot offset : Word) (s : State) : State :=
  match slotOf slot with
  | none => s.recordResult .badSlot
  | some i =>
    if s.planes.slotBound i then s.recordResult .inUse
    else if chainOffsetOk offset.toNat then s.beginLoad i offset.toNat
    else s.recordResult .chainRange

/-- R42. -/
def State.takeUnload (slot : Word) (s : State) : State :=
  match slotOf slot with
  | none => s.recordResult .badSlot
  | some i => if s.planes.slotBound i then s.recordResult .inUse else (s.setSlot i .empty).recordResult .ok

/-! ### BIND, UNBIND, COMMIT, CANCEL (R101, R102, R103, R109) -/

def Switch.isArmed : Switch → Bool
  | .armed _ => true
  | .steady => false

def State.setBinding (s : State) (p : Plane) (b : Option (Fin 8)) : State :=
  { s with planes := s.planes.setEntry p { s.planes.entry p with binding := b } }

/-- Checks 3 to 8 of R101 in their order. -/
def State.bindRefusal (s : State) (i : Fin 8) (p : Plane) (background : Bool) : Option Result :=
  if s.planes.scanned = p then some .inScan
  else if s.planes.switch.isArmed then some .state
  else if (s.planes.entry p).binding.isSome then some .planeBound
  else if s.layouts.slots[i].layout?.isNone then some .notReady
  else if (s.planes.entry p.other).binding = some i then some .inUse
  else if background && s.fillFull then some .full
  else none

def State.takeBind (slot plane flag : Word) (s : State) : State :=
  match planeOf plane, slotOf slot with
  | none, _ => s.recordResult .badPlane
  | some _, none => s.recordResult .badSlot
  | some p, some i =>
    match s.bindRefusal i p (flagOf flag) with
    | some r => s.recordResult r
    | none =>
      let s' := s.setBinding p (some i)
      (if flagOf flag then s'.joinBackground p else s').recordResult .ok

/-- R102: the binding goes, with the plane's writes in the collector (R90) and its fill jobs (R147). -/
def State.unbindPlane (s : State) (p : Plane) : State :=
  let s' := s.setBinding p none
  { s' with collector := s'.collector.discard p }.cancelJobs p

def State.takeUnbind (plane : Word) (s : State) : State :=
  match planeOf plane with
  | none => s.recordResult .badPlane
  | some p =>
    if s.planes.scanned = p then s.recordResult .inScan
    else if s.planes.switch.isArmed then s.recordResult .state
    else if (s.planes.entry p).binding.isNone then s.recordResult .ok
    else (s.unbindPlane p).recordResult .ok

def State.takeCommit (s : State) : State :=
  if s.planes.switch.isArmed then s.recordResult .state
  else if (s.planes.entry s.planes.idle).binding.isNone then s.recordResult .noTarget
  else (s.arm .host).recordResult .ok

def State.takeCancel (s : State) : State :=
  match s.planes.switch with
  | .steady => s.recordResult .state
  | .armed r => if r.selectMoved then s.recordResult .state else s.withdraw.recordResult .ok

/-! ### FILL (R145) -/

/-- Check 3 of R145, on the whole operand words (R174). -/
def fillRectOk (x y width height : Nat) : Bool :=
  decide (width ≠ 0) && decide (height ≠ 0) && decide (x + width ≤ Config.panelColumns) && decide (y + height ≤ Config.panelRows)

def hostJob (p : Plane) (r : Rect) (c : Colour) : FillJob := { newJob p .host with rects := [r], colour := some c }

def State.takeFill (plane x y width height colour : Word) (s : State) : State :=
  match planeOf plane with
  | none => s.recordResult .badPlane
  | some p =>
    if (s.planes.entry p).binding.isNone then s.recordResult .noLayout
    else if !fillRectOk x.toNat y.toNat width.toNat height.toNat then s.recordResult .badValue
    else if s.fillFull then s.recordResult .full
    else
      let r : Rect := { x := x.toNat, y := y.toNat, width := width.toNat, height := height.toNat }
      (s.setJobs (s.fill.jobs ++ [hostJob p r (colourOf colour)])).recordResult .ok

/-! ### SET-MAP and SET-TRACKER (R134, R132, R133) -/

def State.takeSetMap (closed partly opened : Word) (s : State) : State :=
  match mapEntryOf closed, mapEntryOf partly, mapEntryOf opened with
  | some c, some p, some o => { s with tracker := { s.tracker with map := ⟨c, p, o⟩ } }.recordResult .ok
  | _, _, _ => s.recordResult .badSlot

def thresholdsOk (closedEnter closedExit openExit openEnter : Nat) : Bool :=
  decide (closedEnter < closedExit) && decide (closedExit < openExit) && decide (openExit < openEnter) && decide (openEnter ≤ 1800)

/-- OK, or CLAMPED where a setting was moved into its range (R132, R164). -/
def clampResult (unmoved : Bool) : Result := if unmoved then .ok else .clamped

def inRange (low high n : Nat) : Bool := decide (low ≤ n) && decide (n ≤ high)

def inRangeInt (low high n : Int) : Bool := decide (low ≤ n) && decide (n ≤ high)

def State.takeSetTracker (closedEnter closedExit openExit openEnter dwell limit offset0 offset1 period : Word) (s : State) :
    State :=
  let t := s.tracker
  if thresholdsOk closedEnter.toNat closedExit.toNat openExit.toNat openEnter.toNat then
    { s with
      tracker :=
        { t with
          closedEnter := closedEnter.toNat
          closedExit := closedExit.toNat
          openExit := openExit.toNat
          openEnter := openEnter.toNat
          dwell := clamp 1 64 dwell.toNat
          agreementLimit := clamp 10 300 limit.toNat
          sensor0 := { t.sensor0 with offset := clampInt (-100) 100 offset0.toInt }
          sensor1 := { t.sensor1 with offset := clampInt (-100) 100 offset1.toInt }
          period := clamp 1 50 period.toNat
          candidate := none
          sampleTimer := some (clamp 1 50 period.toNat) } }.recordResult
      (clampResult
        (inRange 1 64 dwell.toNat && inRange 10 300 limit.toNat && inRangeInt (-100) 100 offset0.toInt &&
          inRangeInt (-100) 100 offset1.toInt && inRange 1 50 period.toNat))
  else s.recordResult .badValue

/-! ### SET-PATH and ACK (R164, R165) -/

/-- The age timer restarts with the new interval (R85), where it runs (log 30). -/
def State.takeSetPath (highWater settle age swapLimit mask : Word) (s : State) : State :=
  let interval := clamp 1 50 age.toNat
  { s with
    front := { s.front with highWater := clamp 8 32 highWater.toNat, settleSetting := clamp 1 255 settle.toNat }
    collector := { s.collector with ageInterval := interval, ageTimer := s.collector.ageTimer.map fun _ => interval }
    planes := { s.planes with swapLimit := clamp 10 1000 swapLimit.toNat }
    status := { s.status with mask := maskOf mask } }.recordResult
    (clampResult
      (inRange 8 32 highWater.toNat && inRange 1 255 settle.toNat && inRange 1 50 age.toNat && inRange 10 1000 swapLimit.toNat))

def State.takeAck (mask clear : Word) (s : State) : State :=
  { s with
    status :=
      { s.status with
        flags := s.status.flags &&& ~~~(maskOf mask)
        counters := if flagOf clear then Counters.zero else s.status.counters } }.recordResult .ok

/-! ### RESET (R166) -/

/-- R158, R171: an offered record write is withdrawn. -/
def State.withdrawRecord (s : State) : State := if s.recordStands then s.setWrite .quiet else s

/-- The link side, translator, collector, layout table, fill engine and arbiter reset (R17, R63, R93, R40, R148, R158). -/
def State.softResetBlocks (s : State) : State :=
  let s' := s.answerZeros.emptyPath.withdrawRecord
  let s'' := { s' with
    collector := s'.collector.clear (if s'.front.link.active then some s'.collector.ageInterval else none)
    pointer := .path }
  (s''.abortLoad.cancelAllJobs (decide (s''.front.link = .sleepDrain))).disownFlight

/-- What the decoder and the status writer do at a soft reset (R166). -/
def State.softResetRecords (s : State) (aborted : Bool) : State :=
  { s with
    decoder := { busy := false, lastCommand := 0x0C, lastResult := if aborted then .aborted else .ok, taken := 0 }
    status := { s.status with flags := 0, counters := Counters.zero } }

/-- R166, R115: every block, then the switch; flags and counters cleared; then the re-evaluation after a swap done, and the
record (log 23). -/
def State.takeReset (s : State) : State :=
  let (s', swapped) := s.softResetBlocks.resetSwitch
  let s'' := s'.softResetRecords s.layouts.load.isSome
  (if swapped then s''.reevaluate else s'').recordCause

/-! ### The judgement (R161 to R163) -/

def State.rejectRecord (s : State) : State := (s.count .rejectedRecords 1).report .cmdRejected

/-- R163: the record is counted and its command code becomes the last command. -/
def State.noteTaken (s : State) (command : Word) : State :=
  { s with decoder := { s.decoder with taken := s.decoder.taken + 1, lastCommand := command.setWidth 8 } }

/-- Whether a control record is taken (R161). -/
def State.takes (s : State) (command check : Word) : Bool :=
  decide (check = ~~~command) && (!s.decoder.busy || decide (command = 0x0C))

/-- R161: a control record arrives; the command acts if the record is taken. -/
def State.arrive (s : State) (command check : Word) (act : State → State) : State :=
  if s.takes command check then act (s.noteTaken command) else s.rejectRecord

/-- The command of a command word with its operand words (R163, R174); any other word is BAD-COMMAND. -/
def commandOf (command : Word) (w : Nat → Word) : State → State :=
  match command.toNat with
  | 1 => State.takeLoad (w 0) (w 1)
  | 2 => State.takeUnload (w 0)
  | 3 => State.takeBind (w 0) (w 1) (w 2)
  | 4 => State.takeUnbind (w 0)
  | 5 => State.takeCommit
  | 6 => State.takeCancel
  | 7 => State.takeFill (w 0) (w 1) (w 2) (w 3) (w 4) (w 5)
  | 8 => State.takeSetMap (w 0) (w 1) (w 2)
  | 9 => State.takeSetTracker (w 0) (w 1) (w 2) (w 3) (w 4) (w 5) (w 6) (w 7) (w 8)
  | 10 => State.takeSetPath (w 0) (w 1) (w 2) (w 3) (w 4)
  | 11 => State.takeAck (w 0) (w 1)
  | 12 => State.takeReset
  | _ => fun s => s.recordResult .badCommand

/-- The 64 bytes of a control record reach the decoder (R9, R174). -/
def State.snoop (s : State) (bytes : List Byte) : State :=
  s.arrive (recordWord bytes 0) (recordWord bytes 1) (commandOf (recordWord bytes 0) fun n => recordWord bytes (n + 2))

end Sys2Proof.Machine
end

