-- ==== Sys2Proof/Machine/Link.lean ====
section
/-! DEFINITION. Resets and the link states (01_the_frame_link_and_request_routing.md 1.7, 1.8): the rows POWER_ON_RESET to
DRAIN_CONDITION. A row whose condition does not hold has no effect (log 1). -/

namespace Sys2Proof.Machine

/-! ### Power-on reset -/

/-- R150: what memory had taken of a burst in flight when power-on reset cuts it (log 10). -/
def State.cutFlight (s : State) : Memory :=
  match s.port with
  | none => s.mem
  | some f =>
    match f.payload with
    | .read _ => s.mem
    | .write beats => Memory.writeBeats f.addr (beats.take (Config.beatsTaken s.freeCount % (beats.length + 1))) s.mem

/-- R15: the power-on state, with the straps sampled (R3). The input lines keep their levels, and memory stands outside the part. -/
def State.powerOn (strap1 strap0 : Bool) (s : State) : State :=
  { State.reset with
    pins := { s.pins with powerOnReset := true }
    front := { State.reset.front with strap1 := strap1, strap0 := strap0 }
    sentUpstream := s.sentUpstream
    mem := s.cutFlight
    nextId := s.nextId
    freeCount := s.freeCount + 1
    pending := s.pending }

/-- R15. -/
def execPowerOnReset (strap1 strap0 : Bool) (s : State) : Answer := .next (s.powerOn strap1 strap0)

/-- R129: a rising edge of the latch level: LATCH, and on a change of the settled posture POSTURE and re-evaluation. -/
def State.latchRising (s : State) : State :=
  let s' := { s with tracker := s.tracker.latchClosed }.report .latch
  if s.tracker.settled = some .CLOSED then s' else (s'.report .posture).reevaluate

/-- R12, R98, R119, R131: on release the timers start and a high latch level is taken as a rising edge; the link settles unless
link reset is still asserted. -/
def State.release (s : State) : State :=
  let s' :=
    { s with
      pins := { s.pins with powerOnReset := false }
      frame := { s.frame with scanTimer := some Config.scanStoppedMs }
      tracker := { s.tracker with sampleTimer := some s.tracker.period } }
  let s'' := if s'.pins.linkReset then s' else s'.enterSettle
  if s''.pins.closedLatch then s''.latchRising else s''

def actPowerOnResetRelease (s : State) : Act := if s.pins.powerOnReset then .concluded s.release else .still s

def execPowerOnResetRelease (s : State) : Answer := (actPowerOnResetRelease s).answer s

/-! ### Link reset -/

/-- The "Link reset asserted" column of R171. -/
def RecordWrite.linkReset : RecordWrite → RecordWrite
  | .quiet => .due
  | .due => .due
  | .offered => .due
  | .writing => .writingDue
  | .writingDue => .writingDue

/-- R16, R39, R63, R93, R114, R148, R158, R160, R171: every block at the assertion of link reset, then the switch (log 23). -/
def State.linkReset (s : State) : State :=
  let s' := s.emptyPath
  let s'' :=
    { s' with
      front := { s'.front with link := .resetHold, settleTimer := none }
      collector := s'.collector.clear none
      pointer := .path
      status := { s'.status with write := s'.status.write.linkReset } }
  let s3 := (s''.abortLoad.cancelAllJobs false).disownFlight
  let (s4, swapped) := { s3 with decoder := { s3.decoder with busy := false } }.resetSwitch
  if swapped then s4.reevaluate else s4

/-- R16. -/
def actLinkReset (s : State) : Act :=
  if s.pins.linkReset then .still s
  else
    let s' := { s with pins := { s.pins with linkReset := true } }
    if s.pins.powerOnReset then .still s' else .concluded s'.linkReset

def execLinkReset (s : State) : Answer := (actLinkReset s).answer s

/-- R12: release of the last asserted reset. -/
def actLinkResetRelease (s : State) : Act :=
  if s.pins.linkReset then
    let s' := { s with pins := { s.pins with linkReset := false } }
    if s.pins.powerOnReset then .still s' else .concluded s'.enterSettle
  else .still s

def execLinkResetRelease (s : State) : Answer := (actLinkResetRelease s).answer s

/-! ### Settle, sleep and wake -/

def State.setLink (s : State) (l : LinkState) : State := { s with front := { s.front with link := l } }

/-- R13, R91, R149: what entering SLEEP-DRAIN asks of the collector and the fill engine. -/
def State.enterSleepDrain (s : State) : State :=
  let s' := s.setLink .sleepDrain
  { s' with collector := s'.collector.flushAll }.askPause

/-- R12, R84, R149: the link leaves SETTLE. -/
def State.settleEnd (s : State) : State :=
  let s' :=
    { s with
      front := { s.front with link := if s.pins.sleepRequest then .sleepDrain else .awake, settleTimer := none }
      collector := { s.collector with ageTimer := some s.collector.ageInterval } }.offerDue
  if s.pins.sleepRequest then s'.enterSleepDrain else s'.endPause

def actSettleEnd (s : State) : Act :=
  if s.front.link = .settle ∧ s.front.settleTimer.isSome then .concluded s.settleEnd else .still s

def execSettleEnd (s : State) : Answer := (actSettleEnd s).answer s

/-- R13. -/
def actSleepRequestRise (s : State) : Act :=
  if s.pins.sleepRequest then .still s
  else
    let s' := { s with pins := { s.pins with sleepRequest := true } }
    if s.front.link = .awake then .concluded s'.enterSleepDrain else .still s'

def execSleepRequestRise (s : State) : Answer := (actSleepRequestRise s).answer s

/-- R13, R14. -/
def actSleepRequestFall (s : State) : Act :=
  if s.pins.sleepRequest then
    let s' := { s with pins := { s.pins with sleepRequest := false } }
    match s.front.link with
    | .sleepDrain => .concluded (s'.setLink .awake).endPause
    | .asleep => .concluded s'.enterSettle
    | .resetHold => .still s'
    | .settle => .still s'
    | .awake => .still s'
  else .still s

def execSleepRequestFall (s : State) : Answer := (actSleepRequestFall s).answer s

/-- The drain condition (R13, R157); in SLEEP-DRAIN an engine with no burst in hand has paused (R149). -/
def State.drained (s : State) : Bool :=
  s.inbound.isEmpty && s.router.isNone && s.outQueue.isEmpty && s.responses.isEmpty && s.collector.isEmpty && s.fill.burst.isNone &&
    s.layouts.load.isNone && decide (s.status.write = .quiet) && s.port.isNone

/-- R13, R84. -/
def actDrainCondition (s : State) : Act :=
  if s.front.link = .sleepDrain ∧ s.drained then
    .concluded { s.setLink .asleep with collector := { s.collector with ageTimer := none } }
  else .still s

def execDrainCondition (s : State) : Answer := (actDrainCondition s).answer s

end Sys2Proof.Machine
end

