-- ==== Sys2Proof/Machine/CommandRows.lean ====
section
/-! DEFINITION. The control records (chapter 10): the rows LOAD to BAD_COMMAND. Each row is a record with that command word
reaching the decoder (log 4). -/

namespace Sys2Proof.Machine

/-- A control record can reach the decoder when the router holds no request (R64, R9) and the link lets requests be routed. -/
def State.decoderReached (s : State) : Bool := s.front.link.active && s.router.isNone

/-- A record reaches the decoder and is judged and acted on (R161, R163). -/
def State.controlRecord (s : State) (command check : Word) (act : State → State) : Act :=
  if s.decoderReached then .concluded (s.arrive command check act) else .still s

/-- R26. -/
def actLoad (check slot offset : Word) (s : State) : Act := s.controlRecord 1 check (State.takeLoad slot offset)

def execLoad (check slot offset : Word) (s : State) : Answer := (actLoad check slot offset s).answer s

/-- R42. -/
def actUnload (check slot : Word) (s : State) : Act := s.controlRecord 2 check (State.takeUnload slot)

def execUnload (check slot : Word) (s : State) : Answer := (actUnload check slot s).answer s

/-- R101. -/
def actBind (check slot plane flag : Word) (s : State) : Act :=
  s.controlRecord 3 check (State.takeBind slot plane flag)

def execBind (check slot plane flag : Word) (s : State) : Answer := (actBind check slot plane flag s).answer s

/-- R102. -/
def actUnbind (check plane : Word) (s : State) : Act := s.controlRecord 4 check (State.takeUnbind plane)

def execUnbind (check plane : Word) (s : State) : Answer := (actUnbind check plane s).answer s

/-- R103. -/
def actCommit (check : Word) (s : State) : Act := s.controlRecord 5 check State.takeCommit

def execCommit (check : Word) (s : State) : Answer := (actCommit check s).answer s

/-- R109. -/
def actCancel (check : Word) (s : State) : Act := s.controlRecord 6 check State.takeCancel

def execCancel (check : Word) (s : State) : Answer := (actCancel check s).answer s

/-- R145. -/
def actFill (check plane x y width height colour : Word) (s : State) : Act :=
  s.controlRecord 7 check (State.takeFill plane x y width height colour)

def execFill (check plane x y width height colour : Word) (s : State) : Answer := (actFill check plane x y width height colour s).answer s

/-- R134. -/
def actSetMap (check closed partly opened : Word) (s : State) : Act :=
  s.controlRecord 8 check (State.takeSetMap closed partly opened)

def execSetMap (check closed partly opened : Word) (s : State) : Answer := (actSetMap check closed partly opened s).answer s

/-- R132, R133. -/
def actSetTracker (check closedEnter closedExit openExit openEnter dwell limit offset0 offset1 period : Word) (s : State) :
    Act :=
  s.controlRecord 9 check (State.takeSetTracker closedEnter closedExit openExit openEnter dwell limit offset0 offset1 period)

def execSetTracker (check closedEnter closedExit openExit openEnter dwell limit offset0 offset1 period : Word) (s : State) :
    Answer :=
  (actSetTracker check closedEnter closedExit openExit openEnter dwell limit offset0 offset1 period s).answer s

/-- R164. -/
def actSetPath (check highWater settle age swapLimit mask : Word) (s : State) : Act :=
  s.controlRecord 10 check (State.takeSetPath highWater settle age swapLimit mask)

def execSetPath (check highWater settle age swapLimit mask : Word) (s : State) : Answer :=
  (actSetPath check highWater settle age swapLimit mask s).answer s

/-- R165. -/
def actAck (check mask clear : Word) (s : State) : Act := s.controlRecord 11 check (State.takeAck mask clear)

def execAck (check mask clear : Word) (s : State) : Answer := (actAck check mask clear s).answer s

/-- R166. -/
def actReset (check : Word) (s : State) : Act := s.controlRecord 12 check State.takeReset

def execReset (check : Word) (s : State) : Answer := (actReset check s).answer s

/-- R163. The row is for a command word that is no command (log 24). -/
def actBadCommand (command check : Word) (s : State) : Act :=
  if knownCommand command then .still s else s.controlRecord command check fun s => s.recordResult .badCommand

def execBadCommand (command check : Word) (s : State) : Answer := (actBadCommand command check s).answer s

end Sys2Proof.Machine
end

