-- ==== Sys2Proof/Machine/Requests.lean ====
section
/-! DEFINITION. Upstream requests through the router and the translator (chapters 1 and 3): the rows ACCEPT to
TRANSLATED_READ_SEGMENT_PLACE. -/

namespace Sys2Proof.Machine

/-- R1, R5: a request is accepted whole while ready is high. A request no link can carry is not presented (log 24). -/
def actAccept (r : Request) (s : State) : Act :=
  if s.ready && r.wf then .concluded { s with inbound := s.inbound ++ [r] } else .still s

def execAccept (r : Request) (s : State) : Answer := (actAccept r s).answer s

/-- R11: the response entry of a read, by the name `nextId`; a write has none. -/
def State.openResponse (s : State) (r : Request) : State × Option Nat :=
  match r.payload with
  | .write _ => (s, none)
  | .read beats =>
    ({ s with
        responses := s.responses ++ [{ id := s.nextId, beats := List.replicate beats.length none, sent := 0 }]
        nextId := s.nextId + 1 }, some s.nextId)

/-- R6, R7: the taken request is cut into pieces and the first is worked on. -/
def State.takeRequest (s : State) (r : Request) : State :=
  let (s', response) := s.openResponse r
  s'.workOn { request := r, pieces := piecesOf s.fb r, response := response } (piecesOf s.fb r)

/-- R6. -/
def actRouterTake (s : State) : Act :=
  match s.inbound, s.router with
  | r :: rest, none => if s.front.link.active then .concluded ({ s with inbound := rest }.takeRequest r) else .still s
  | _, _ => .still s

def execRouterTake (s : State) : Answer := (actRouterTake s).answer s

/-! ### Pass segments -/

/-- The piece the router has in hand, if it is a pass piece. -/
def RouterHold.passPiece (h : RouterHold) : Option Piece :=
  match h.pieces with
  | [] => none
  | p :: _ =>
    match p.region with
    | .aperture _ => none
    | .below => some p
    | .descriptor => some p
    | .direct => some p
    | .above => some p

/-- R8: the piece is placed unchanged. -/
def State.placePass (s : State) (h : RouterHold) (p : Piece) : State :=
  s.placeSegment (.pass (h.response.map fun id => (id, p.first))) p.addr p.payload

/-- Whether the choice point of a mailbox segment's placement comes before the decoder's acts (log 7). -/
def State.placementChoice (s : State) : State :=
  if Config.placementFirst s.freeCount then s.choicePoint.tickFree else s.tickFree

/-- R9, R10: the placement of a mailbox write sets the outstanding indication, and the decoder is handed the 64 bytes. -/
def State.placeMailbox (s : State) (h : RouterHold) (p : Piece) (beats : List DataBeat) : State :=
  (({ s.placePass h p with mailboxOutstanding := some s.nextId }.placementChoice).pieceHandedOn).snoop (beatsBytes beats)

/-- R8, R9. -/
def actPassSegmentPlace (s : State) : Act :=
  match s.router with
  | none => .still s
  | some h =>
    match h.passPiece with
    | none => .still s
    | some p =>
      if s.outputRoom then
        match mailboxBytes s.fb h.request with
        | some beats => .concluded (s.placeMailbox h p beats)
        | none => .concluded (s.placePass h p).pieceHandedOn
      else .still s

def execPassSegmentPlace (s : State) : Answer := (actPassSegmentPlace s).answer s

/-! ### Translated segments and inserts -/

/-- R53. -/
def actStraightSegmentPlace (s : State) : Act :=
  match s.translator with
  | .writing job =>
    match job.hand with
    | .segment addr beats =>
      if s.outputRoom then .concluded ((s.placeSegment (.straight job.plane) addr (.write beats)).goOn job) else .still s
    | .insert _ _ => .still s
  | .idle => .still s
  | .readIssue _ => .still s
  | .readHeld _ _ => .still s
  | .readWait _ => .still s

def execStraightSegmentPlace (s : State) : Answer := (actStraightSegmentPlace s).answer s

/-- R55, R80 to R82: the insert in hand reaches the collector. One already turned away waits for a place (log 19). -/
def actCollectorInsert (s : State) : Act :=
  match s.translator with
  | .writing job =>
    match job.hand with
    | .insert i false => .concluded (s.offerInsert job i)
    | .insert _ true => .still s
    | .segment _ _ => .still s
  | .idle => .still s
  | .readIssue _ => .still s
  | .readHeld _ _ => .still s
  | .readWait _ => .still s

def execCollectorInsert (s : State) : Answer := (actCollectorInsert s).answer s

/-- R60. -/
def actTranslatedReadSegmentPlace (s : State) : Act :=
  match s.translator with
  | .readIssue job => if s.outputRoom then .concluded (s.placeRead job) else .still s
  | .idle => .still s
  | .writing _ => .still s
  | .readHeld _ _ => .still s
  | .readWait _ => .still s

def execTranslatedReadSegmentPlace (s : State) : Answer := (actTranslatedReadSegmentPlace s).answer s

end Sys2Proof.Machine
end

