-- ==== Sys2Proof/Machine/Downstream.lean ====
section
/-! DEFINITION. Bursts at memory (chapter 9) and the HEAD fetch (R27): the rows BURST_COMPLETE, READ_DATA_RETURN and
HEAD_FETCH_OFFER. -/

namespace Sys2Proof.Machine

/-! ### Completion -/

/-- R79, R89, R104, R61: a flush write is reported written. -/
def State.flushWritten (s : State) (id : Nat) : State :=
  ({ s with collector := s.collector.leaveDrains fun x => decide (x = id) }.noteDrains).releaseRead id

/-- R10: the writing of the mailbox segment placed last clears the indication. -/
def State.clearOutstanding (s : State) (id : Nat) : State :=
  if s.mailboxOutstanding = some id then { s with mailboxOutstanding := none } else s

/-- R10, R104: a segment of the request path has been written. -/
def State.segmentWritten (s : State) (id : Nat) : State := (s.clearOutstanding id).noteSegment id

/-- R31: the data of a chain fetch is in. -/
def State.fetchComplete (s : State) : State :=
  match s.layouts.load with
  | none => s
  | some l => s.recordFetched l

/-- R154: the completion goes to the burst's source, or to no one. -/
def State.reportCompletion (s : State) (f : Flight) : State :=
  if f.wanted then
    match f.origin with
    | .fetch => s.fetchComplete
    | .record => s.recordWritten
    | .priority id _ => s.flushWritten id
    | .ordinary id _ => s.flushWritten id
    | .path id _ => if f.payload.isWrite then s.segmentWritten id else s
    | .fill => s.fillWritten
  else s

/-- Memory has taken the beats of a write (R150). -/
def State.landed (s : State) (f : Flight) : Memory :=
  match f.payload with
  | .write beats => Memory.writeBeats f.addr beats s.mem
  | .read _ => s.mem

/-- Memory may finish a write whenever it likes; a read may be finished once its last beat has returned (R150). Its BURST_COMPLETE is a
step of its own, before which other steps may come (log 33). -/
def Flight.mayComplete (f : Flight) : Bool := f.payload.isWrite || decide (f.moved = f.payload.length)

/-- R150, R154: the port returns to IDLE and the source is told. -/
def State.completeFlight (s : State) (f : Flight) : State := { s with port := none, mem := s.landed f }.reportCompletion f

/-- R150: the completion; the port then reaches a choice point. -/
def actBurstComplete (s : State) : Act :=
  match s.port with
  | none => .still s
  | some f => if f.mayComplete then .completed (s.completeFlight f) else .still s

def execBurstComplete (s : State) : Answer := (actBurstComplete s).answer s

/-! ### Read data -/

/-- A beat of a chain fetch goes to the layout table. -/
def State.takeFetchBeat (s : State) (data : DataBeat) : State :=
  match s.layouts.load with
  | none => s
  | some l => { s with layouts := { s.layouts with load := some { l with data := l.data ++ [data] } } }

/-- R154: where a beat of read data goes. No write returns data. -/
def State.deliverBeat (s : State) (origin : Origin) (beat : Nat) (data : DataBeat) : State :=
  match origin with
  | .fetch => s.takeFetchBeat data
  | .path _ (.pass (some (id, first))) => (s.setBeat id (first + beat) data).sendUpstream
  | .path _ (.pass none) => s
  | .path _ (.straight _) => s
  | .path _ (.translated index) => s.assemble index beat data
  | .record => s
  | .priority _ _ => s
  | .ordinary _ _ => s
  | .fill => s

/-- One beat of the read in flight has returned (R150, R154). -/
def State.returnBeat (s : State) (f : Flight) (other : DataBeat) : State :=
  let s' := { s with port := some { f with moved := f.moved + 1 } }
  if f.wanted then s'.deliverBeat f.origin f.moved (Memory.returnBeat s.mem (f.addr + 16 * f.moved) other) else s'

/-- R154. -/
def actReadDataReturn (other : DataBeat) (s : State) : Act :=
  match s.port with
  | none => .still s
  | some f =>
    if !f.payload.isWrite && decide (f.moved < f.payload.length) then .concluded (s.returnBeat f other) else .still s

def execReadDataReturn (other : DataBeat) (s : State) : Answer := (actReadDataReturn other s).answer s

/-! ### The HEAD fetch -/

/-- R27. -/
def actHeadFetchOffer (s : State) : Act :=
  match s.layouts.load with
  | none => .still s
  | some l => if l.phase = .waiting ∧ s.mailboxOutstanding = none then .concluded (s.offerFetch l) else .still s

def execHeadFetchOffer (s : State) : Answer := (actHeadFetchOffer s).answer s

end Sys2Proof.Machine
end

