-- ==== Sys2Proof/Machine/FillRows.lean ====
section
/-! DEFINITION. The fill engine takes up its head job (chapter 8): the row FILL_JOB_START. -/

namespace Sys2Proof.Machine

/-- R138. -/
def actFillJobStart (s : State) : Act := .concluded s.takeUpJob

def execFillJobStart (s : State) : Answer := (actFillJobStart s).answer s

end Sys2Proof.Machine
end

