-- ==== Sys2Proof/Machine/Timing.lean ====
section
/-! DEFINITION. The age timer, frame timing and the swap limit (chapters 5 and 6): the rows AGE_TICK to SWAP_LIMIT. -/

namespace Sys2Proof.Machine

/-- R84. -/
def actAgeTick (s : State) : Act :=
  if s.collector.ageTimer.isSome then .concluded { s with collector := s.collector.ageTick } else .still s

def execAgeTick (s : State) : Answer := (actAgeTick s).answer s

/-- R105: an armed swap whose select has not moved looks at its drain. -/
def State.blankStart (s : State) : State :=
  match s.planes.switch with
  | .steady => s
  | .armed r =>
    if r.selectMoved then s
    else if s.drainComplete r then s.moveSelect r
    else (s.report .swapLate).count .lateSwaps 1

/-- R97, R105: a falling edge of the frame-sync line; while power-on reset is asserted there is a level and no edge. -/
def actBlankStart (s : State) : Act :=
  if s.pins.frameSync then
    let s' := { s with pins := { s.pins with frameSync := false } }
    if s.pins.powerOnReset then .still s' else .concluded s'.blankStart
  else .still s

def execBlankStart (s : State) : Answer := (actBlankStart s).answer s

/-- R97, R106. -/
def State.frameStart (s : State) : State :=
  let s' := { s with frame := { counter := s.frame.counter + 1, scanStopped := false, scanTimer := some Config.scanStoppedMs } }
  match s.planes.switch with
  | .steady => s'
  | .armed r => if r.selectMoved then s'.finishSwap r else s'

/-- R97, R106: a rising edge of the frame-sync line. -/
def actFrameStart (s : State) : Act :=
  if s.pins.frameSync then .still s
  else
    let s' := { s with pins := { s.pins with frameSync := true } }
    if s.pins.powerOnReset then .still s' else .concluded s'.frameStart

def execFrameStart (s : State) : Answer := (actFrameStart s).answer s

/-- R98; the swap it makes due is carried out at the end of the step (R107). -/
def actScanStopped (s : State) : Act :=
  if s.frame.scanTimer.isSome then .concluded { s with frame := { s.frame with scanStopped := true, scanTimer := none } }
  else .still s

def execScanStopped (s : State) : Answer := (actScanStopped s).answer s

/-- R108: abandonment. -/
def State.abandon (s : State) : State := ((s.withdraw.report .swapAbandoned).count .abandonedSwaps 1).reevaluate

/-- R108: the limit has no effect once the select line has moved. -/
def actSwapLimit (s : State) : Act :=
  match s.planes.switch with
  | .steady => .still s
  | .armed r => if r.selectMoved then .still s else .concluded s.abandon

def execSwapLimit (s : State) : Answer := (actSwapLimit s).answer s

end Sys2Proof.Machine
end

