-- ==== Sys2Proof/Machine/TrackerRows.lean ====
section
/-! DEFINITION. The fold tracker at work (chapter 7): the rows SAMPLE_TIMER to LATCH_FALL. -/

namespace Sys2Proof.Machine

/-- R119: the timer restarts; an expiry that finds a sample in progress is passed over. -/
def actSampleTimer (s : State) : Act :=
  if s.tracker.sampleTimer.isSome then
    let sample := if s.tracker.sample = .none then Sample.reading0 else s.tracker.sample
    .still { s with tracker := { s.tracker with sampleTimer := some s.tracker.period, sample := sample } }
  else .still s

def execSampleTimer (s : State) : Answer := (actSampleTimer s).answer s

/-- R119, R121, R125, R127: the evaluation of a sample, with its reports. -/
def State.evaluate (s : State) (o0 o1 : Option Nat) : State :=
  let before := s.tracker
  let after := before.evaluate s.pins.closedLatch o0 o1
  let s1 := { s with tracker := after }.count .clampedSamples
    (clampReports o0 before.sensor0.offset + clampReports o1 before.sensor1.offset)
  let s2 := if Tracker.sensorReport before after then s1.report .sensor else s1
  if after.settled = before.settled then s2 else (s2.report .posture).reevaluate

/-- A sensor read ends in a good read or a miss: after sensor 0 the read of sensor 1 begins, after sensor 1 the sample is
evaluated (R119, R120). -/
def State.endRead (s : State) (outcome : Option Nat) : State :=
  match s.tracker.sample with
  | .none => s
  | .reading0 => { s with tracker := { s.tracker with sample := .reading1 outcome } }
  | .reading1 outcome0 => s.evaluate outcome0 outcome

/-- R120. Without a sample in progress no read can end. -/
def actSensorRead (acknowledged : Bool) (first second : Byte) (s : State) : Act :=
  if s.i2cBusy then .concluded (s.endRead (readOutcome acknowledged first second)) else .still s

def execSensorRead (acknowledged : Bool) (first second : Byte) (s : State) : Answer := (actSensorRead acknowledged first second s).answer s

/-- R120: a read that times out is a miss. -/
def actI2cTimeout (s : State) : Act := if s.i2cBusy then .concluded (s.endRead none) else .still s

def execI2cTimeout (s : State) : Answer := (actI2cTimeout s).answer s

/-- R129. -/
def actLatchRise (s : State) : Act :=
  if s.pins.closedLatch then .still s
  else
    let s' := { s with pins := { s.pins with closedLatch := true } }
    if s.pins.powerOnReset then .still s' else .concluded s'.latchRising

def execLatchRise (s : State) : Answer := (actLatchRise s).answer s

/-- R130. -/
def actLatchFall (s : State) : Act :=
  if s.pins.closedLatch then
    let s' := { s with pins := { s.pins with closedLatch := false } }
    if s.pins.powerOnReset then .still s' else .concluded (s'.report .latch)
  else .still s

def execLatchFall (s : State) : Answer := (actLatchFall s).answer s

end Sys2Proof.Machine
end

