-- ==== Sys2Proof/Machine/Dispatch.lean ====
section
/-! DEFINITION. One arm for each command. -/

namespace Sys2Proof.Machine

def exec (i : Instr) (s : State) : Host.Outcome State Fault Refusal :=
  match i with
  | .powerOnReset strap1 strap0 => Sys2Proof.Machine.execPowerOnReset strap1 strap0 s
  | .powerOnResetRelease => Sys2Proof.Machine.execPowerOnResetRelease s
  | .linkReset => Sys2Proof.Machine.execLinkReset s
  | .linkResetRelease => Sys2Proof.Machine.execLinkResetRelease s
  | .settleEnd => Sys2Proof.Machine.execSettleEnd s
  | .sleepRequestRise => Sys2Proof.Machine.execSleepRequestRise s
  | .sleepRequestFall => Sys2Proof.Machine.execSleepRequestFall s
  | .drainCondition => Sys2Proof.Machine.execDrainCondition s
  | .accept request => Sys2Proof.Machine.execAccept request s
  | .routerTake => Sys2Proof.Machine.execRouterTake s
  | .passSegmentPlace => Sys2Proof.Machine.execPassSegmentPlace s
  | .straightSegmentPlace => Sys2Proof.Machine.execStraightSegmentPlace s
  | .collectorInsert => Sys2Proof.Machine.execCollectorInsert s
  | .translatedReadSegmentPlace => Sys2Proof.Machine.execTranslatedReadSegmentPlace s
  | .burstComplete => Sys2Proof.Machine.execBurstComplete s
  | .readDataReturn beat => Sys2Proof.Machine.execReadDataReturn beat s
  | .headFetchOffer => Sys2Proof.Machine.execHeadFetchOffer s
  | .ageTick => Sys2Proof.Machine.execAgeTick s
  | .blankStart => Sys2Proof.Machine.execBlankStart s
  | .frameStart => Sys2Proof.Machine.execFrameStart s
  | .scanStopped => Sys2Proof.Machine.execScanStopped s
  | .swapLimit => Sys2Proof.Machine.execSwapLimit s
  | .sampleTimer => Sys2Proof.Machine.execSampleTimer s
  | .sensorRead acknowledged first second => Sys2Proof.Machine.execSensorRead acknowledged first second s
  | .i2cTimeout => Sys2Proof.Machine.execI2cTimeout s
  | .latchRise => Sys2Proof.Machine.execLatchRise s
  | .latchFall => Sys2Proof.Machine.execLatchFall s
  | .fillJobStart => Sys2Proof.Machine.execFillJobStart s
  | .load check slot offset => Sys2Proof.Machine.execLoad check slot offset s
  | .unload check slot => Sys2Proof.Machine.execUnload check slot s
  | .bind check slot plane flag => Sys2Proof.Machine.execBind check slot plane flag s
  | .unbind check plane => Sys2Proof.Machine.execUnbind check plane s
  | .commit check => Sys2Proof.Machine.execCommit check s
  | .cancel check => Sys2Proof.Machine.execCancel check s
  | .fill check plane x y width height colour => Sys2Proof.Machine.execFill check plane x y width height colour s
  | .setMap check closed partly opened => Sys2Proof.Machine.execSetMap check closed partly opened s
  | .setTracker check closedEnter closedExit openExit openEnter dwell limit offset0 offset1 period => Sys2Proof.Machine.execSetTracker check closedEnter closedExit openExit openEnter dwell limit offset0 offset1 period s
  | .setPath check highWater settle age swapLimit mask => Sys2Proof.Machine.execSetPath check highWater settle age swapLimit mask s
  | .ack check mask clear => Sys2Proof.Machine.execAck check mask clear s
  | .reset check => Sys2Proof.Machine.execReset check s
  | .badCommand command check => Sys2Proof.Machine.execBadCommand command check s

end Sys2Proof.Machine
end

