-- ==== Sys2Proof/Safety.lean ====
section
/-! DEFINITION. What counts as a sound state of the part: the laws the spec says hold in every reachable state, each a
decidable statement about one state. -/

namespace Sys2Proof.Machine

/-! ### Layouts and planes -/

def Slot.isReady : Slot → Bool
  | .ready _ => true
  | .empty => false
  | .loading _ => false

def Slot.isLoading : Slot → Bool
  | .loading _ => true
  | .empty => false
  | .ready _ => false

/-- Every bound slot is READY (R24, R95). -/
def State.bindingReady (s : State) (p : Plane) : Prop := ∀ i, (s.planes.entry p).binding = some i → s.layouts.slots[i].isReady = true

/-- The slot a load in progress is for. -/
def State.loadSlot (s : State) : Option (Fin 8) :=
  match s.layouts.load with
  | some l => some l.slot
  | none => none

/-- R24, R95: the SCANNED plane is bound, bound slots are READY, no slot is bound to both planes. -/
structure State.LayoutLaw (s : State) : Prop where
  scannedBound : (s.planes.entry s.planes.scanned).binding.isSome = true
  readyA : s.bindingReady .A
  readyB : s.bindingReady .B
  apart : ∀ i, s.planes.a.binding = some i → s.planes.b.binding ≠ some i

/-- R22, R160: busy is set exactly while a load is in progress, and LOADING is exactly the slot of that load. -/
structure State.LoadLaw (s : State) : Prop where
  busy : s.decoder.busy = s.layouts.load.isSome
  loading : ∀ i : Fin 8, s.layouts.slots[i].isLoading = true ↔ s.loadSlot = some i

/-- R99, R103: STEADY names the SCANNED plane; ARMED has the bound IDLE plane as its target, and the line names it once moved. -/
def State.switchLaw (s : State) : Prop :=
  match s.planes.switch with
  | .steady => s.planes.select = s.planes.scanned
  | .armed r =>
    r.target = s.planes.idle ∧ (s.planes.entry r.target).binding.isSome = true ∧
      s.planes.select = if r.selectMoved then r.target else s.planes.scanned

/-- The three laws of planes, slots and the switch, which hold together. -/
structure State.PlaneInv (s : State) : Prop where
  layout : s.LayoutLaw
  load : s.LoadLaw
  switch : s.switchLaw

/-! ### Installed layouts -/

/-- What R34 checks of a spine record. -/
def Spine.wellFormed (sp : Spine) : Prop :=
  8 ≤ sp.width ∧ sp.width ≤ 256 ∧ sp.width % 8 = 0 ∧ sp.knots.length = sp.width / 8 + 1

/-- What R35 checks of a guard record. -/
def Guard.wellFormed (g : Guard) : Prop :=
  (g.onClosed || g.onPartial || g.onOpen) = true ∧ 1 ≤ g.rects.length ∧ g.rects.length ≤ 4 ∧
    ∀ r ∈ g.rects, 1 ≤ r.width ∧ 1 ≤ r.height

/-- R37: 1 to 6 views in ascending number order, each well placed, no two of which share a byte of their windows or a pixel of
their panel rectangles; a spine and a guard inside the panel. -/
structure Layout.Sound (l : Layout) : Prop where
  count : 1 ≤ l.views.length ∧ l.views.length ≤ 6
  order : l.views.Pairwise fun v w => v.number < w.number
  placed : ∀ v ∈ l.views, v.number < 6 ∧ v.wellPlaced = true
  windows : l.views.Pairwise fun v w => windowsMeet v w = false
  rects : l.views.Pairwise fun v w => rectsMeet v.panelRect w.panelRect = false
  spine : ∀ sp, l.spine = some sp → sp.wellFormed ∧ sp.start + sp.width ≤ Config.panelColumns
  guard : ∀ g, l.guard = some g → g.wellFormed ∧ ∀ r ∈ g.rects, r.onPanel = true

/-- What the records staged so far have passed (R32 to R35). -/
structure Staging.Sound (st : Staging) : Prop where
  places : st.views.length = 6
  head : ∀ h, st.head = some h → 1 ≤ h.declared ∧ h.declared ≤ 6
  views : ∀ (k : Nat) (v : View), st.views[k]? = some (some v) → v.number = k ∧ v.wellPlaced = true
  spine : ∀ sp, st.spine = some sp → sp.wellFormed
  guard : ∀ g, st.guard = some g → g.wellFormed

/-- The layout a slot holds, installed or remembered. -/
def Slot.held : Slot → Option Layout
  | .empty => none
  | .loading remembered => remembered
  | .ready l => some l

structure State.LayoutsInv (s : State) : Prop where
  slots : ∀ (i : Fin 8) (l : Layout), s.layouts.slots[i].held = some l → l.Sound
  staging : ∀ l, s.layouts.load = some l → l.staging.Sound

/-! ### Capacities -/

/-- R4, R5, R10, R77, R79, R137. -/
structure State.Capacities (s : State) : Prop where
  inbound : s.inbound.length ≤ Config.inboundPlaces
  mark : s.front.highWater ≤ Config.inboundPlaces
  output : s.outQueue.length ≤ Config.outputPlaces
  table : s.collector.table.length ≤ Config.tablePlaces
  ordinary : s.collector.ordinary.length ≤ Config.flushPlaces
  priority : s.collector.priority.length ≤ Config.flushPlaces
  fill : s.fill.jobs.length ≤ Config.fillPlaces

/-! ### Settings and counts -/

/-- The offset is in its range and the counts in theirs (R118). -/
def Sensor.sound (x : Sensor) : Bool :=
  decide (-100 ≤ x.offset) && decide (x.offset ≤ 100) && decide (x.misses ≤ 3) && decide (x.goods ≤ 2)

/-- R118, R127, R132: the tracker's settings and counts in their ranges. -/
structure Tracker.Sound (t : Tracker) : Prop where
  sensors : t.sensor0.sound = true ∧ t.sensor1.sound = true
  thresholds : t.closedEnter < t.closedExit ∧ t.closedExit < t.openExit ∧ t.openExit < t.openEnter ∧ t.openEnter ≤ 1800
  dwell : 1 ≤ t.dwell ∧ t.dwell ≤ 64
  limit : 10 ≤ t.agreementLimit ∧ t.agreementLimit ≤ 300
  period : 1 ≤ t.period ∧ t.period ≤ 50
  fused : ∀ a, t.lastFused = some a → a ≤ 1800
  disagreeing : t.disagreeing < 4
  agreeing : t.agreeing < 4
  candidate : ∀ p n, t.candidate = some (p, n) → 1 ≤ n ∧ n < t.dwell ∧ t.settled ≠ some p

def Counters.toList (c : Counters) : List Nat :=
  [c.orphan, c.padding, c.saturation, c.eviction, c.clampedSamples, c.lateSwaps, c.abandonedSwaps, c.rejectedRecords]

/-- R5, R12, R85, R108, R118, R169: every setting and count stays in its range. -/
structure State.SettingsInv (s : State) : Prop where
  mark : 8 ≤ s.front.highWater ∧ s.front.highWater ≤ 32
  settle : 1 ≤ s.front.settleSetting ∧ s.front.settleSetting ≤ 255
  age : 1 ≤ s.collector.ageInterval ∧ s.collector.ageInterval ≤ 50
  swap : 10 ≤ s.planes.swapLimit ∧ s.planes.swapLimit ≤ 1000
  tracker : s.tracker.Sound
  counters : ∀ n ∈ s.status.counters.toList, n ≤ Config.counterTop

/-! ### The collector, the fill queue, the port -/

/-- A lane with an enabled byte. -/
def laneFilled (l : MaskedLane) : Bool := l.any Option.isSome

def beatFilled (b : MaskedBeat) : Bool := b.any laneFilled

/-- R77: no two entries for one key, and no entry without an enabled byte; and R45, R55: every lane on its way to the collector
has one. -/
structure State.CollectorInv (s : State) : Prop where
  keys : (s.collector.table.map (·.key)).Nodup
  filled : ∀ e ∈ s.collector.table, beatFilled e.data = true
  hand : ∀ job, s.translator = .writing job → ∀ i w, job.hand = .insert i w → laneFilled i.bytes = true
  todo : ∀ job, s.translator = .writing job → ∀ lane, LaneStep.turned lane ∈ job.todo → laneFilled lane.bytes = true

/-- The insert that waits for a place in the table (R82). -/
def State.waitingInsert (s : State) : Option Insert :=
  match s.translator with
  | .writing job =>
    match job.hand with
    | .insert i true => some i
    | .insert _ false => none
    | .segment _ _ => none
  | .idle => none
  | .readIssue _ => none
  | .readHeld _ _ => none
  | .readWait _ => none

def FillJob.isGuard (p : Plane) (j : FillJob) : Bool := decide (j.plane = p) && decide (j.kind = .guard)

def FillJob.isBackground (p : Plane) (j : FillJob) : Bool := decide (j.plane = p) && decide (j.kind = .background)

/-- R96, R137: of one plane at most one GUARD job; the mark is set exactly while a BACKGROUND job of it is queued, of which there
is at most one; jobs are for bound planes. -/
structure State.FillLaw (s : State) : Prop where
  guards : ∀ p, (s.fill.jobs.filter (FillJob.isGuard p)).length ≤ 1
  backgrounds : ∀ p, (s.fill.jobs.filter (FillJob.isBackground p)).length ≤ 1
  mark : ∀ p, (s.planes.entry p).backgroundPending = s.fill.jobs.any (FillJob.isBackground p)
  bound : ∀ j ∈ s.fill.jobs, (s.planes.entry j.plane).binding.isSome = true

/-- The command word and the check word of a control record row (R174). -/
def controlWords : Instr → Option (Word × Word)
  | .load check _ _ => some (1, check)
  | .unload check _ => some (2, check)
  | .bind check _ _ _ => some (3, check)
  | .unbind check _ => some (4, check)
  | .commit check => some (5, check)
  | .cancel check => some (6, check)
  | .fill check _ _ _ _ _ _ => some (7, check)
  | .setMap check _ _ _ => some (8, check)
  | .setTracker check _ _ _ _ _ _ _ _ _ => some (9, check)
  | .setPath check _ _ _ _ _ => some (10, check)
  | .ack check _ _ => some (11, check)
  | .reset check => some (12, check)
  | .badCommand command check => some (command, check)
  | .powerOnReset _ _ => none
  | .powerOnResetRelease => none
  | .linkReset => none
  | .linkResetRelease => none
  | .settleEnd => none
  | .sleepRequestRise => none
  | .sleepRequestFall => none
  | .drainCondition => none
  | .accept _ => none
  | .routerTake => none
  | .passSegmentPlace => none
  | .straightSegmentPlace => none
  | .collectorInsert => none
  | .translatedReadSegmentPlace => none
  | .burstComplete => none
  | .readDataReturn _ => none
  | .headFetchOffer => none
  | .ageTick => none
  | .blankStart => none
  | .frameStart => none
  | .scanStopped => none
  | .swapLimit => none
  | .sampleTimer => none
  | .sensorRead _ _ _ => none
  | .i2cTimeout => none
  | .latchRise => none
  | .latchFall => none
  | .fillJobStart => none

/-- R163, R170: a taken record's code, result and count, and the record write the result causes. -/
def State.answered (s : State) (code : Byte) (r : Result) : State :=
  { s with decoder := { s.decoder with taken := s.decoder.taken + 1, lastCommand := code, lastResult := r } }.recordCause

/-- A control record can be taken: it reaches the decoder (log 4), which is not busy (R161). -/
def State.attends (s : State) : Bool := s.decoderReached && !s.decoder.busy

/-- R153: the port is not left IDLE while an offer stands. -/
def State.neverIdle (s : State) : Prop := s.port = none → ∀ x, s.stands x = false

/-! ### What a command does itself -/

/-- What a command does before what comes about at once at the end of its step. -/
def act : Instr → State → Act
  | .powerOnReset strap1 strap0, s => .still (s.powerOn strap1 strap0)
  | .powerOnResetRelease, s => actPowerOnResetRelease s
  | .linkReset, s => actLinkReset s
  | .linkResetRelease, s => actLinkResetRelease s
  | .settleEnd, s => actSettleEnd s
  | .sleepRequestRise, s => actSleepRequestRise s
  | .sleepRequestFall, s => actSleepRequestFall s
  | .drainCondition, s => actDrainCondition s
  | .accept request, s => actAccept request s
  | .routerTake, s => actRouterTake s
  | .passSegmentPlace, s => actPassSegmentPlace s
  | .straightSegmentPlace, s => actStraightSegmentPlace s
  | .collectorInsert, s => actCollectorInsert s
  | .translatedReadSegmentPlace, s => actTranslatedReadSegmentPlace s
  | .burstComplete, s => actBurstComplete s
  | .readDataReturn beat, s => actReadDataReturn beat s
  | .headFetchOffer, s => actHeadFetchOffer s
  | .ageTick, s => actAgeTick s
  | .blankStart, s => actBlankStart s
  | .frameStart, s => actFrameStart s
  | .scanStopped, s => actScanStopped s
  | .swapLimit, s => actSwapLimit s
  | .sampleTimer, s => actSampleTimer s
  | .sensorRead acknowledged first second, s => actSensorRead acknowledged first second s
  | .i2cTimeout, s => actI2cTimeout s
  | .latchRise, s => actLatchRise s
  | .latchFall, s => actLatchFall s
  | .fillJobStart, s => actFillJobStart s
  | .load check slot offset, s => actLoad check slot offset s
  | .unload check slot, s => actUnload check slot s
  | .bind check slot plane flag, s => actBind check slot plane flag s
  | .unbind check plane, s => actUnbind check plane s
  | .commit check, s => actCommit check s
  | .cancel check, s => actCancel check s
  | .fill check plane x y width height colour, s => actFill check plane x y width height colour s
  | .setMap check closed partly opened, s => actSetMap check closed partly opened s
  | .setTracker check closedEnter closedExit openExit openEnter dwell limit offset0 offset1 period, s =>
    actSetTracker check closedEnter closedExit openExit openEnter dwell limit offset0 offset1 period s
  | .setPath check highWater settle age swapLimit mask, s => actSetPath check highWater settle age swapLimit mask s
  | .ack check mask clear, s => actAck check mask clear s
  | .reset check, s => actReset check s
  | .badCommand command check, s => actBadCommand command check s

end Sys2Proof.Machine
end

