-- ==== Sys2Proof/Certificates/Slice0/Obligations.lean ====
section
/-! DEFINITION. The statements about the model. -/

open Sys2Proof Sys2Proof.Machine

/-! ### The step -/

/-- A step carries out the command at the front of the queue on the state with the queue's rest; on an empty queue the block idles (log
2, the model's choice). -/
def Obligations.StepRunsTheFrontCommand : Prop :=
  (∀ (c : Instr) (rest : List Instr) (s : State), step { s with pending := c :: rest } = exec c { s with pending := rest }) ∧
  (∀ s : State, s.pending = [] → step s = .next s)

/-- Every command answers a next state from every state, and leaves the queue alone. -/
def Obligations.NoCommandStops : Prop :=
  ∀ (c : Instr) (s : State), ∃ t, exec c s = .next t ∧ t.pending = s.pending

/-! ### Invariants -/

/-- R24, R95, R22, R160, R99: bindings, slots, busy and the select line keep their laws. -/
def Obligations.PlaneLawsAreKept : Prop :=
  ∀ s t : State, s.PlaneInv → step s = .next t → t.PlaneInv

/-- R4, R10, R77, R79, R137: no queue outgrows its places. -/
def Obligations.CapacitiesAreKept : Prop :=
  ∀ s t : State, s.Capacities → step s = .next t → t.Capacities

/-- R5, R12, R85, R108, R118, R127, R132, R169: every setting and count stays in its range. -/
def Obligations.SettingsStayInRange : Prop :=
  ∀ s t : State, s.SettingsInv → step s = .next t → t.SettingsInv

/-- R77: the table never holds two entries for one key, nor an entry without an enabled byte. -/
def Obligations.CollectorLawIsKept : Prop :=
  ∀ s t : State, s.CollectorInv → step s = .next t → t.CollectorInv

/-- R96, R137: GUARD and BACKGROUND jobs are single, the mark stands for the BACKGROUND job, jobs are for bound planes. -/
def Obligations.FillQueueLawIsKept : Prop :=
  ∀ s t : State, s.PlaneInv → s.FillLaw → step s = .next t → t.FillLaw

/-- R153: no step leaves the port IDLE while an offer stands. -/
def Obligations.PortIsNeverIdleWhileAnOfferStands : Prop :=
  ∀ s t : State, s.neverIdle → step s = .next t → t.neverIdle

/-- R37: every installed layout has passed the checks of a load. -/
def Obligations.InstalledLayoutsAreSound : Prop :=
  ∀ s t : State, s.LayoutsInv → step s = .next t → t.LayoutsInv

/-- The written bytes of the attached memory keep their one form. -/
def Obligations.MemoryStaysCanonical : Prop :=
  ∀ s t : State, s.mem.wf = true → step s = .next t → t.mem.wf = true

/-- Every invariant holds at reset. -/
def Obligations.InvariantsHoldAtReset : Prop :=
  State.reset.PlaneInv ∧ State.reset.Capacities ∧ State.reset.SettingsInv ∧ State.reset.CollectorInv ∧ State.reset.FillLaw ∧
    State.reset.neverIdle ∧ State.reset.LayoutsInv ∧ State.reset.mem.wf = true

/-! ### Frames -/

/-- Memory changes only at the finish of a write burst and when power-on reset cuts one. That all beats of a burst land at its finish
is the model's choice (log 10): R150 lets memory take them one by one. -/
def Obligations.OnlyFinishedWritesReachMemory : Prop :=
  ∀ (c : Instr) (s t : State), exec c s = .next t → c ≠ .burstComplete → (∀ a b, c ≠ .powerOnReset a b) →
    ∀ a, Memory.read a t.mem = Memory.read a s.mem

/-- R118, R135, R97, R98: the tracker is touched by its own rows, power-on reset and its release, SET_MAP, SET_TRACKER and a record
placed through the mailbox alone; the frame counter, the scan-stopped flag and its timer by frame starts, the timer's expiry and
power-on reset alone. No link reset, soft reset or link state reaches either. -/
def Obligations.TrackerAndMonitorHaveTheirOwnCommands : Prop :=
  (∀ (c : Instr) (s t : State), exec c s = .next t →
      (∀ a b, c ≠ .powerOnReset a b) → c ≠ .powerOnResetRelease → c ≠ .sampleTimer → (∀ k a b, c ≠ .sensorRead k a b) →
      c ≠ .i2cTimeout → c ≠ .latchRise → c ≠ .passSegmentPlace → (∀ k a b d, c ≠ .setMap k a b d) →
      (∀ k a b d e f g h i j, c ≠ .setTracker k a b d e f g h i j) → t.tracker = s.tracker) ∧
  (∀ (c : Instr) (s t : State), exec c s = .next t → (∀ a b, c ≠ .powerOnReset a b) → c ≠ .powerOnResetRelease →
      c ≠ .frameStart → c ≠ .scanStopped → t.frame = s.frame)

/-- R3, R5, R12, R85, R95, R108, R164: FB is fixed until the next power-on reset; the five settings of SET-PATH are kept by every
command but SET_PATH, power-on reset and a record placed through the mailbox; the bindings by every command but BIND, UNBIND and
those two. -/
def Obligations.BaseSettingsAndBindingsAreKept : Prop :=
  (∀ (c : Instr) (s t : State), exec c s = .next t → (∀ a b, c ≠ .powerOnReset a b) → t.fb = s.fb) ∧
  (∀ (c : Instr) (s t : State), exec c s = .next t → (∀ a b, c ≠ .powerOnReset a b) → c ≠ .passSegmentPlace →
      (∀ k a b d e f, c ≠ .setPath k a b d e f) →
      t.front.highWater = s.front.highWater ∧ t.front.settleSetting = s.front.settleSetting ∧
        t.collector.ageInterval = s.collector.ageInterval ∧ t.planes.swapLimit = s.planes.swapLimit ∧ t.status.mask = s.status.mask) ∧
  (∀ (c : Instr) (s t : State), exec c s = .next t → (∀ a b, c ≠ .powerOnReset a b) → c ≠ .passSegmentPlace →
      (∀ k a b d, c ≠ .bind k a b d) → (∀ k a, c ≠ .unbind k a) →
      ∀ p, (t.planes.entry p).binding = (s.planes.entry p).binding)

/-- R99, R105, R107: every command answers what it does itself (`act`) and what comes about at once at the end of its step (log 5). Outside
power-on reset no command itself moves the select line but a blank start, for an armed swap whose drain is complete. The end of a step
moves it only while scan is stopped: to the target of the armed swap then due, whose drain is complete; or, where that one's select had
moved before, to the target of the swap that the re-evaluation after it arms, whose drain is complete at once. -/
def Obligations.SelectMovesOnlyForACompleteDrain : Prop :=
  (∀ (c : Instr) (s : State), exec c s = (act c s).answer s) ∧
  (∀ (c : Instr) (s : State), s.PlaneInv → (∀ a b, c ≠ .powerOnReset a b) →
    let t := (act c s).state
    t.planes.select = s.planes.select ∨
      (c = .blankStart ∧ ∃ r, s.planes.switch = .armed r ∧ r.selectMoved = false ∧ r.collectorWaiting = false ∧ r.pathWaiting = [] ∧
        (s.planes.entry r.target).backgroundPending = false ∧ t.planes.select = r.target)) ∧
  (∀ before u t : State, u.switchLaw → (t = u.conclude ∨ t = State.concludeCompletion before u) →
    t.planes.select ≠ u.planes.select →
      let drained := fun (v : State) (r : ArmRecord) =>
        v.planes.switch = .armed r ∧ r.selectMoved = false ∧ r.collectorWaiting = false ∧ r.pathWaiting = [] ∧
          (v.planes.entry r.target).backgroundPending = false
      u.frame.scanStopped = true ∧ t.frame.scanStopped = true ∧ ∃ r, u.planes.switch = .armed r ∧ u.swapDue = some r ∧
        ((drained u r ∧ t.planes.select = r.target) ∨
          (r.selectMoved = true ∧ ∃ q, drained (u.finishSwap r) q ∧ t.planes.select = q.target))) ∧
  (∀ (c : Instr) (s t : State), s.PlaneInv → exec c s = .next t → (∀ a b, c ≠ .powerOnReset a b) →
    t.planes.select ≠ s.planes.select → c = .blankStart ∨ t.frame.scanStopped = true)

/-- What ends a step (log 5), and what ends the step in which a burst completes, leaves alone what no report, re-evaluation, grant or
waiting insert is about, and the former changes nothing at all while the port is busy, no swap is due and no insert waits. It is in
order the swaps that are due while scan is stopped (at most two, log 27), the waiting insert, the choice point, and the insert its grant
makes room for. -/
def Obligations.EndOfStep : Prop :=
  let keeps := fun s t : State =>
    t.pins = s.pins ∧ t.front = s.front ∧ t.inbound = s.inbound ∧ t.mailboxOutstanding = s.mailboxOutstanding ∧
      t.layouts.slots = s.layouts.slots ∧ t.frame = s.frame ∧ t.tracker = s.tracker ∧ t.decoder = s.decoder ∧
      t.status.mask = s.status.mask ∧ t.mem = s.mem ∧ t.pending = s.pending ∧ t.planes.swapLimit = s.planes.swapLimit ∧
      t.collector.ageInterval = s.collector.ageInterval ∧ t.collector.ageTimer = s.collector.ageTimer ∧
      ∀ p, (t.planes.entry p).binding = (s.planes.entry p).binding
  (∀ s : State, keeps s s.conclude) ∧ (∀ before s : State, keeps s (State.concludeCompletion before s)) ∧
  (∀ s : State, s.port.isSome = true → s.swapDue = none → s.waitingInsert = none → s.conclude = s) ∧
  (∀ s : State, s.conclude = (State.settleSwaps 2 s).retryInsert.choicePoint.retryInsert) ∧
  (∀ (n : Nat) (s : State), State.settleSwaps 0 s = s ∧ (s.swapDue = none → State.settleSwaps (n + 1) s = s) ∧
    (∀ r, s.swapDue = some r → State.settleSwaps (n + 1) s = State.settleSwaps n (s.finishSwap r))) ∧
  (∀ (s : State) (r : ArmRecord), s.swapDue = some r ↔
    s.planes.switch = .armed r ∧ s.frame.scanStopped = true ∧
      (r.selectMoved = true ∨
        (r.collectorWaiting = false ∧ r.pathWaiting = [] ∧ (s.planes.entry r.target).backgroundPending = false))) ∧
  (∀ (s : State) (r : ArmRecord),
    s.finishSwap r =
      State.reevaluate
        (State.report { s with planes := { s.planes with scanned := r.target, select := r.target, switch := .steady } } .swapDone))

/-! ### Resets and the link (R12 to R17) -/

/-- R15: power-on reset puts the link side in its power-on state, from any state; once released it settles, and plane A is bound
to the identity layout. -/
def Obligations.PowerOnResetSetsTheLinkSide : Prop :=
  ∀ (strap1 strap0 : Bool) (s : State), ∃ t, exec (.powerOnReset strap1 strap0) s = .next t ∧
    t.front = { link := .resetHold, strap1 := strap1, strap0 := strap0, settleSetting := 50, settleTimer := none, highWater := 24 } ∧
    t.fb = frameBase strap1 strap0 ∧ t.inbound = [] ∧ t.router = none ∧ t.outQueue = [] ∧ t.mailboxOutstanding = none ∧
    t.responses = [] ∧ t.ready = false ∧ t.sleepAcknowledge = false ∧ t.boundLayout .A = some identityLayout ∧
    ∃ u, exec .powerOnResetRelease t = .next u ∧
      u.front.link = if s.pins.linkReset then LinkState.resetHold else LinkState.settle

/-- Power-on reset puts every other block in its power-on state too (R40, R63, R92, R95, R118, R137, R150, R153, R160, R169); the
lines keep their levels, and memory stands but for the beats of a write it cuts (log 10). -/
def Obligations.PowerOnResetSetsTheOtherBlocks : Prop :=
  ∀ (strap1 strap0 : Bool) (s : State), ∃ t, exec (.powerOnReset strap1 strap0) s = .next t ∧
    t.pins = { s.pins with powerOnReset := true } ∧ t.translator = .idle ∧ t.collector = Collector.reset ∧
    t.layouts = State.reset.layouts ∧ t.planes = Planes.reset ∧ t.frame = State.reset.frame ∧ t.tracker = Tracker.reset ∧
    t.fill = FillEngine.reset ∧ t.port = none ∧ t.pointer = .path ∧
    t.decoder = { busy := false, lastCommand := 0, lastResult := .ok, taken := 0 } ∧
    t.status = { flags := 1, mask := 0x3FFF, counters := Counters.zero, write := .due } ∧ t.attention = false ∧
    ∃ n,
      (∀ f beats, s.port = some f → f.payload = .write beats →
        n ≤ beats.length ∧ t.mem = Memory.writeBeats f.addr (beats.take n) s.mem) ∧
      ((∀ f beats, s.port = some f → f.payload ≠ .write beats) → t.mem = s.mem)

/-- R12, R98, R111, R119, R129, R131: the release of power-on reset starts the timers and the settle, and takes a high latch level as a
rising edge, with LATCH, and with POSTURE and a re-evaluation of the posture where CLOSED was not settled; the release of link reset
enters SETTLE, unless power-on reset is still asserted. -/
def Obligations.ResetReleasesSettleTheLink : Prop :=
  (∀ s : State, s.pins.powerOnReset = true → ∃ t, exec .powerOnResetRelease s = .next t ∧
      t.pins = { s.pins with powerOnReset := false } ∧ t.frame = { s.frame with scanTimer := some 50 } ∧
      t.front = (if s.pins.linkReset then s.front
        else { s.front with link := .settle, settleTimer := some (s.front.settleSetting * 20) }) ∧
      (s.pins.closedLatch = false → t.tracker = { s.tracker with sampleTimer := some s.tracker.period }) ∧
      (s.pins.closedLatch = true →
        t.tracker = { s.tracker with sampleTimer := some s.tracker.period, settled := some .CLOSED, candidate := none } ∧
          t.flag .latch = true ∧ (s.tracker.settled ≠ some .CLOSED → t.flag .posture = true)) ∧
      (let up : State :=
        { s with
          pins := { s.pins with powerOnReset := false }
          frame := { s.frame with scanTimer := some 50 }
          front := if s.pins.linkReset then s.front
            else { s.front with link := .settle, settleTimer := some (s.front.settleSetting * 20) }
          tracker := { s.tracker with sampleTimer := some s.tracker.period } }
       let closed : State := State.report { up with tracker := { up.tracker with settled := some .CLOSED, candidate := none } } .latch
       (s.pins.closedLatch = false → t = up.conclude) ∧
         (s.pins.closedLatch = true → s.tracker.settled = some .CLOSED → t = closed.conclude) ∧
         (s.pins.closedLatch = true → s.tracker.settled ≠ some .CLOSED →
           t = State.conclude (State.reevaluate (closed.report .posture))))) ∧
  (∀ s : State, s.pins.linkReset = true → ∃ t, exec .linkResetRelease s = .next t ∧ t.pins = { s.pins with linkReset := false } ∧
      (s.pins.powerOnReset = false →
        t.front = { s.front with link := .settle, settleTimer := some (s.front.settleSetting * 20) }) ∧
      (s.pins.powerOnReset = true → t = { s with pins := { s.pins with linkReset := false } }))

/-- R16, R39, R63, R93, R114, R148, R158, R160, R171: what the assertion of link reset leaves, and what it does to an armed swap: one
whose select has not moved is withdrawn, one whose select has is done, with a re-evaluation of the posture. A fill
burst not granted is withdrawn; a granted one stays in the engine's hand until it has been written, its job cancelled. The burst in flight
completes for no one but the status writer and the fill engine's hand (that the reset does not empty that hand is the model's reading, log
29). That the switch acts, and the posture is re-evaluated, after every other block is the model's reading (log 23). -/
def Obligations.LinkResetEmptiesTheLinkSide : Prop :=
  (∀ s : State, s.pins.linkReset = false → s.pins.powerOnReset = false → ∃ t, exec .linkReset s = .next t ∧
      t.pins = { s.pins with linkReset := true } ∧ t.front = { s.front with link := .resetHold, settleTimer := none } ∧
      t.inbound = [] ∧ t.router = none ∧ t.outQueue = [] ∧ t.mailboxOutstanding = none ∧ t.responses = [] ∧
      t.sentUpstream = s.sentUpstream ∧ t.translator = .idle ∧
      t.collector.table = [] ∧ t.collector.ordinary = [] ∧ t.collector.priority = [] ∧ t.collector.requests = [] ∧
      t.collector.drains = [] ∧ t.collector.ageTimer = none ∧ t.collector.ageInterval = s.collector.ageInterval ∧
      t.layouts.load = none ∧
      (∀ i, t.layouts.slots[i] = if s.loadSlot = some i then restoredSlot s.layouts.slots[i] else s.layouts.slots[i]) ∧
      t.decoder = { s.decoder with busy := false, lastResult := if s.layouts.load.isSome then .aborted else s.decoder.lastResult } ∧
      t.fill.burst = (s.fill.burst.bind fun b => if b.granted = true then some { b with cancelled := true } else none) ∧
      t.fill.paused = false ∧ t.fill.pauseAsked = false ∧
      (∀ p, (t.planes.entry p).backgroundPending = false ∧ (t.planes.entry p).binding = (s.planes.entry p).binding) ∧
      t.port =
        (s.port.map fun f => { f with wanted := f.wanted && (decide (f.origin = .record) || decide (f.origin = .fill)) }) ∧
      t.pointer = .path ∧ t.status.write = s.status.write.linkReset ∧
      t.status.counters = s.status.counters ∧ t.tracker = s.tracker ∧ t.frame = s.frame ∧ t.mem = s.mem) ∧
  (∀ (s : State) (r : ArmRecord), s.pins.linkReset = false → s.pins.powerOnReset = false → s.planes.switch = .armed r →
      ∃ t, exec .linkReset s = .next t ∧
        (r.selectMoved = false → t.planes.switch = .steady ∧ t.planes.scanned = s.planes.scanned ∧ t.planes.select = s.planes.select ∧
          t.fill.jobs = []) ∧
        (r.selectMoved = true → t.flag .swapDone = true ∧ (s.frame.scanStopped = false → t.planes.scanned = r.target) ∧
          ∃ u : State, t = State.conclude (u.finishSwap r) ∧ u.planes.switch = .armed r ∧ u.planes.scanned = s.planes.scanned ∧
            u.planes.select = s.planes.select ∧ u.planes.swapLimit = s.planes.swapLimit ∧
            (∀ p, u.planes.entry p = { s.planes.entry p with backgroundPending := false }) ∧ u.layouts = t.layouts ∧
            u.tracker = s.tracker ∧ u.frame = s.frame ∧ u.collector.table = [] ∧ u.collector.ordinary = [] ∧ u.collector.priority = [] ∧
            u.outQueue = [] ∧ u.fill.jobs = [] ∧ u.port = s.port.map Flight.unwanted))

/-- R12, R13, R84, R149: at the end of SETTLE the sleep request level decides the state, the age timer restarts, a pause ends or is
asked again, and a DUE record write takes an IDLE port; the drain condition met, the link is ASLEEP with the age timer stopped. That the
drain condition is met only with the port IDLE, no fill burst in hand and the status writer QUIET is the model's reading (log 28). -/
def Obligations.SettleEndWakesAndDrainSleeps : Prop :=
  (∀ s : State, s.front.link = .settle → s.front.settleTimer.isSome = true → ∃ t, exec .settleEnd s = .next t ∧
      t.front = { s.front with link := (if s.pins.sleepRequest then .sleepDrain else .awake), settleTimer := none } ∧
      t.collector.ageTimer = some s.collector.ageInterval ∧
      (s.pins.sleepRequest = false → t.fill.paused = false ∧ t.fill.pauseAsked = false) ∧
      (s.pins.sleepRequest = true → s.fill.burst = none → t.fill.paused = true ∧ t.fill.burst = none) ∧
      (s.status.write = .due → s.port = none → s.layouts.load = none →
        ∃ beats, t.port = some { origin := .record, addr := s.fb + 0x4000100, payload := .write beats, moved := 0, wanted := true } ∧
          beats.length = 8) ∧
      t.pins = s.pins ∧ t.inbound = s.inbound ∧ t.tracker = s.tracker ∧ t.mem = s.mem) ∧
  (∀ s : State, s.front.link = .sleepDrain →
      ((s.inbound = [] ∧ s.router = none ∧ s.outQueue = [] ∧ s.responses = [] ∧ s.collector.table = [] ∧ s.collector.ordinary = [] ∧
          s.collector.priority = [] ∧ s.fill.burst = none ∧ s.layouts.load = none ∧ s.status.write = .quiet ∧ s.port = none) →
        ∃ t, exec .drainCondition s = .next t ∧ t.front = { s.front with link := .asleep } ∧ t.sleepAcknowledge = true ∧
          t.ready = false ∧ t.collector.ageTimer = none ∧ t.tracker = s.tracker ∧ t.mem = s.mem) ∧
      (¬(s.inbound = [] ∧ s.router = none ∧ s.outQueue = [] ∧ s.responses = [] ∧ s.collector.table = [] ∧ s.collector.ordinary = [] ∧
          s.collector.priority = [] ∧ s.fill.burst = none ∧ s.layouts.load = none ∧ s.status.write = .quiet ∧ s.port = none) →
        exec .drainCondition s = .next s))

/-- R13, R14, R91, R149: a sleep request in AWAKE enters SLEEP-DRAIN, asks an ordinary flush of every HELD entry and a pause of the
fill engine; its fall ends a drain straight into AWAKE and wakes a sleeping link into SETTLE; in any other state an edge changes
the line alone. The flush leaves no HELD entry, whatever room the queue has. -/
def Obligations.SleepRequestEdges : Prop :=
  (∀ s : State, s.pins.sleepRequest = false →
      (s.front.link = .awake →
        exec .sleepRequestRise s = .next (State.conclude
          { s with
            pins := { s.pins with sleepRequest := true }
            front := { s.front with link := .sleepDrain }
            collector := s.collector.askEach ((s.collector.table.filter fun e => decide (e.flush = .held)).map (·.id))
            fill :=
              match s.fill.burst with
              | none => { s.fill with paused := true, pauseAsked := false }
              | some _ => { s.fill with pauseAsked := true } })) ∧
      (s.front.link ≠ .awake → exec .sleepRequestRise s = .next { s with pins := { s.pins with sleepRequest := true } })) ∧
  (∀ s : State, s.pins.sleepRequest = true → ∃ t, exec .sleepRequestFall s = .next t ∧
      t.pins = { s.pins with sleepRequest := false } ∧
      (s.front.link = .sleepDrain →
        t.front = { s.front with link := .awake } ∧ t.fill.paused = false ∧ t.fill.pauseAsked = false) ∧
      (s.front.link = .asleep →
        t.front = { s.front with link := .settle, settleTimer := some (s.front.settleSetting * 20) } ∧ t.sleepAcknowledge = false) ∧
      (s.front.link ≠ .sleepDrain → s.front.link ≠ .asleep → t = { s with pins := { s.pins with sleepRequest := false } })) ∧
  (∀ c : Collector, (c.table.map (·.id)).Nodup → ∀ e ∈ c.flushAll.table, e.flush ≠ .held)

/-! ### Requests (R1 to R11, R50 to R62) -/

/-- R1, R4, R5: a request offered while ready is high joins the tail, leaving the occupancy at or below the mark; while ready is
low nothing is accepted. -/
def Obligations.AcceptJoinsTheTail : Prop :=
  ∀ (r : Request) (s : State), r.wf = true →
    (s.front.link = .awake → s.inbound.length < s.front.highWater →
      exec (.accept r) s = .next (State.conclude { s with inbound := s.inbound ++ [r] }) ∧
        (s.inbound ++ [r]).length ≤ s.front.highWater) ∧
    (¬(s.front.link = .awake ∧ s.inbound.length < s.front.highWater) → exec (.accept r) s = .next s)

/-- R3, R7: FB by the straps, and the six regions by the offset from FB. A request is one piece, or two that meet at a region
boundary; each lies in its one region, and together they carry the request's beats in order. -/
def Obligations.PiecesCoverTheRequest : Prop :=
  (frameBase false false = 0 ∧ frameBase false true = 0x20000000 ∧ frameBase true false = 0x40000000 ∧
    frameBase true true = 0x80000000) ∧
  (∀ fb a : Nat,
    (regionOf fb a = .below ↔ a < fb) ∧
      (regionOf fb a = .aperture .A ↔ fb ≤ a ∧ a < fb + 0x2000000) ∧
      (regionOf fb a = .aperture .B ↔ fb + 0x2000000 ≤ a ∧ a < fb + 0x4000000) ∧
      (regionOf fb a = .descriptor ↔ fb + 0x4000000 ≤ a ∧ a < fb + 0x4010000) ∧
      (regionOf fb a = .direct ↔ fb + 0x4010000 ≤ a ∧ a < fb + 0x8000000) ∧
      (regionOf fb a = .above ↔ fb + 0x8000000 ≤ a)) ∧
  ∀ (strap1 strap0 : Bool) (r : Request), r.wf = true →
    let fb := frameBase strap1 strap0
    (∀ p ∈ piecesOf fb r, ∀ i < p.payload.length, regionOf fb (p.addr + 16 * i) = p.region) ∧
      (piecesOf fb r = [{ region := regionOf fb r.addr, addr := r.addr, payload := r.payload, first := 0 }] ∨
        ∃ k, 0 < k ∧ k < r.payload.length ∧ regionOf fb (r.addr + 16 * k) ≠ regionOf fb r.addr ∧
          piecesOf fb r =
            [{ region := regionOf fb r.addr, addr := r.addr, payload := r.payload.take k, first := 0 },
              { region := regionOf fb (r.addr + 16 * k), addr := r.addr + 16 * k, payload := r.payload.drop k, first := k }])

/-- R6, R11, R46, R50: the router takes the head when it holds nothing and the link lets it. A read gets a response entry; a first
piece outside the apertures waits in the router to be placed. A write wholly inside the aperture of an unbound plane is dropped:
each lane with an enabled byte raises the orphan counter, ORPHAN is set, and the router is free. A first piece in an aperture goes to
the translator with the layout bound to the plane: a write's lanes come in hand in order, each by its outcome, the lanes of a row run
together; a read's zero beats are answered and the first segment of its plan is asked about, and the translator is READ-ISSUE, or
READ-HELD on every write held for it. A piece with nothing to wait for is handed on at once. -/
def Obligations.RouterTakesTheHead : Prop :=
  (∀ (s : State) (r : Request) (rest : List Request) (p : Piece) (ps : List Piece),
      s.router = none → s.inbound = r :: rest → (s.front.link = .awake ∨ s.front.link = .sleepDrain) →
      piecesOf s.fb r = p :: ps → (∀ q, p.region ≠ .aperture q) →
      (r.payload.isWrite = true →
        exec .routerTake s = .next (State.conclude
          { s with inbound := rest, router := some { request := r, pieces := p :: ps, response := none } })) ∧
      (r.payload.isWrite = false →
        exec .routerTake s = .next (State.conclude
          { s with
            inbound := rest
            router := some { request := r, pieces := p :: ps, response := some s.nextId }
            responses := s.responses ++ [{ id := s.nextId, beats := List.replicate r.payload.length none, sent := 0 }]
            nextId := s.nextId + 1 }))) ∧
  (∀ (s : State) (r : Request) (rest : List Request) (plane : Plane) (beats : List MaskedBeat) (p : Piece),
      s.router = none → s.inbound = r :: rest → (s.front.link = .awake ∨ s.front.link = .sleepDrain) →
      piecesOf s.fb r = [p] → p.region = .aperture plane → p.payload = .write beats → s.boundLayout plane = none →
      let dropped := ((beats.flatMap Quad.toList).filter laneFilled).length
      ∃ t, exec .routerTake s = .next t ∧ t.inbound = rest ∧ t.router = none ∧ t.translator = .idle ∧ t.outQueue.length ≤ s.outQueue.length ∧
        (dropped = 0 → t.status.counters.orphan = s.status.counters.orphan) ∧
        (0 < dropped → t.status.counters.orphan = min 65535 (s.status.counters.orphan + dropped) ∧ t.flag .orphan = true)) ∧
  (∀ (s : State) (r : Request) (rest : List Request) (p : Piece) (ps : List Piece) (plane : Plane),
      s.router = none → s.inbound = r :: rest → (s.front.link = .awake ∨ s.front.link = .sleepDrain) →
      piecesOf s.fb r = p :: ps → p.region = .aperture plane →
      let layout := s.boundLayout plane
      let base := planeBase s.fb plane
      (∀ beats : List MaskedBeat, p.payload = .write beats → r.payload.isWrite = true →
        exec .routerTake s = .next (State.conclude (State.handedOnIfIdle
          (State.takeInHand { s with inbound := rest, router := some { request := r, pieces := p :: ps, response := none } } plane layout
            (laneSteps layout (lanesFrom (p.addr - base) beats)))))) ∧
      (∀ beats : List EnableBeat, p.payload = .read beats → r.payload.isWrite = false →
        let plan := (readPlan layout base (p.addr - base) beats).1
        let assembly := (readPlan layout base (p.addr - base) beats).2
        let answered : State := State.sendUpstream (State.setAssembled
          { s with
            inbound := rest
            router := some { request := r, pieces := p :: ps, response := some s.nextId }
            responses := s.responses ++ [{ id := s.nextId, beats := List.replicate r.payload.length none, sent := 0 }]
            nextId := s.nextId + 1 }
          s.nextId p.first assembly)
        let job : ReadJob :=
          { plane := plane, layout := layout, response := s.nextId, first := p.first, plan := plan, assembly := assembly }
        (plan = [] → exec .routerTake s = .next (State.conclude (State.pieceHandedOn { answered with translator := .idle }))) ∧
        (∀ (q : PlanSegment) (more : List PlanSegment), plan = q :: more →
          (s.collector.heldFor (q.keys plane) = [] →
            exec .routerTake s = .next (State.conclude { answered with translator := .readIssue job })) ∧
          (s.collector.heldFor (q.keys plane) ≠ [] →
            exec .routerTake s = .next (State.conclude
              { answered with
                collector := s.collector.requestPriority (q.keys plane)
                translator := .readHeld job (s.collector.heldFor (q.keys plane)) }))))) ∧
  (∀ (o n k : Nat) (beats : List MaskedBeat), (lanesFrom o beats).length = 4 * beats.length ∧
      (n < beats.length → k < 4 →
        (lanesFrom o beats)[4 * n + k]? = some (o + 16 * n + 4 * k, (beats.getD n Collector.emptyBeat).get k))) ∧
  (∀ (layout : Option Layout) (o : Nat) (bytes : MaskedLane) (rest : List (Nat × MaskedLane)),
      let steps := laneSteps layout rest
      let all := laneSteps layout ((o, bytes) :: rest)
      laneSteps layout [] = [] ∧ (laneFilled bytes = false → all = steps) ∧
        (laneFilled bytes = true →
          ((outcomeOf layout o = .noLayout ∨ outcomeOf layout o = .outside) → all = .orphan :: steps) ∧
          (outcomeOf layout o = .padding → all = .padding :: steps) ∧
          (∀ v u row, outcomeOf layout o = .inView v u row →
            let lane : PlacedLane := { x := (v.panel u row).1, y := (v.panel u row).2, bytes := bytes }
            ((v.rotation = .r90 ∨ v.rotation = .r270) → all = .turned lane :: steps) ∧
            ((v.rotation = .r0 ∨ v.rotation = .r180) →
              (∀ lanes more, steps = .run v.number row lanes :: more → all = .run v.number row (lane :: lanes) :: more) ∧
              ((∀ lanes more, steps ≠ .run v.number row lanes :: more) → all = .run v.number row [lane] :: steps)))))

/-- R6 to R10: a pass piece is placed unchanged while the output queue has room, and waits while it has none; placed, it has been handed
on. A write that exactly covers the mailbox also sets the mailbox outstanding indication, and its 64 bytes reach the decoder; whether
the choice point of the placement comes before is free (log 7). A piece handed on, the router goes on with the next of its request, and
has finished with the last: a pass piece waits to be placed, an aperture piece goes to the translator, and one with nothing to wait for
is handed on at once. -/
def Obligations.PassPieceIsPlaced : Prop :=
  (∀ (s : State) (h : RouterHold) (p : Piece) (more : List Piece), s.router = some h → h.pieces = p :: more →
      (∀ q, p.region ≠ .aperture q) → mailboxBytes s.fb h.request = none →
      (s.outQueue.length < 16 →
        exec .passSegmentPlace s = .next (State.conclude (State.pieceHandedOn
          { s with
            outQueue :=
              s.outQueue ++
                [{ id := s.nextId, kind := .pass (h.response.map fun id => (id, p.first)), addr := p.addr, payload := p.payload }]
            nextId := s.nextId + 1 }))) ∧
      (16 ≤ s.outQueue.length → exec .passSegmentPlace s = .next s)) ∧
  (∀ (s : State) (h : RouterHold) (p : Piece) (more : List Piece) (data : List DataBeat), s.router = some h →
      h.pieces = p :: more → (∀ q, p.region ≠ .aperture q) → s.outQueue.length < 16 → h.request.addr = s.fb + 0x4000000 →
      h.request.payload = .write (data.map DataBeat.masked) → data.length = 4 →
      ∃ (u : State),
        (let placed : State :=
          { s with
            outQueue :=
              s.outQueue ++
                [{ id := s.nextId, kind := .pass (h.response.map fun id => (id, p.first)), addr := p.addr, payload := p.payload }]
            nextId := s.nextId + 1
            mailboxOutstanding := some s.nextId }
         u = placed ∨ u = placed.choicePoint) ∧
        exec .passSegmentPlace s =
          .next (State.conclude
            (State.snoop (State.pieceHandedOn { u with freeCount := s.freeCount + 1 }) (beatsBytes data)))) ∧
  (∀ s : State,
      (s.router = none → s.pieceHandedOn = s) ∧
      (∀ h, s.router = some h →
        (h.pieces.tail = [] → s.pieceHandedOn = { s with router := none }) ∧
        (∀ p more, h.pieces.tail = p :: more →
          let next : State := { s with router := some { h with pieces := p :: more } }
          ((∀ q, p.region ≠ .aperture q) → s.pieceHandedOn = next) ∧
          (∀ plane, p.region = .aperture plane →
            let given := next.translatePiece plane p h.response
            (given.translator ≠ .idle → s.pieceHandedOn = given) ∧
              (given.translator = .idle → s.pieceHandedOn = given.pieceHandedOn))))) ∧
  (∀ (s : State) (plane : Plane) (p : Piece) (response : Option Nat),
      let layout := s.boundLayout plane
      let base := planeBase s.fb plane
      (∀ beats : List MaskedBeat, p.payload = .write beats →
        s.translatePiece plane p response = s.takeInHand plane layout (laneSteps layout (lanesFrom (p.addr - base) beats))) ∧
      (∀ (beats : List EnableBeat) (id : Nat), p.payload = .read beats → response = some id →
        let plan := (readPlan layout base (p.addr - base) beats).1
        let assembly := (readPlan layout base (p.addr - base) beats).2
        let answered : State := State.sendUpstream (s.setAssembled id p.first assembly)
        let job : ReadJob := { plane := plane, layout := layout, response := id, first := p.first, plan := plan, assembly := assembly }
        (plan = [] → s.translatePiece plane p response = { answered with translator := .idle }) ∧
        (∀ q rest, plan = q :: rest →
          (s.collector.heldFor (q.keys plane) = [] → s.translatePiece plane p response = { answered with translator := .readIssue job }) ∧
          (s.collector.heldFor (q.keys plane) ≠ [] →
            s.translatePiece plane p response =
              { answered with
                collector := s.collector.requestPriority (q.keys plane)
                translator := .readHeld job (s.collector.heldFor (q.keys plane)) }))))

/-- R53, R56, R60, R61, R86 to R88: a straight segment in hand is placed while the output queue has room, and the translator goes on with
its lanes. So is a read segment free of hazards: the plan's end is READ-WAIT, a next segment without a match READ-ISSUE, one with matches
READ-HELD on every write held for its keys, with their priority requests made. A full queue stalls both. An enquiry matches every write
held for a key of the segment's beats, in the table or either queue (R88). A priority request for a key has to move the ordinary writes
for it, oldest first, and then its entry, which stands as PRIORITY-WAITING from then on; one with nothing to move is not made (R87). The
requests of one moment are made one after another (log 21). Whenever places may have appeared, the writes of the requests, in the order
these were made, join the tail of the priority queue while it has one of its 16 places, and what is left of a request waits; then the
ORDINARY-WAITING entries, in the order they were asked, take the places of the ordinary queue (R86). -/
def Obligations.TranslatorPlacesItsSegments : Prop :=
  (∀ (s : State) (job : WriteJob) (addr : Nat) (beats : List MaskedBeat), s.translator = .writing job →
      job.hand = .segment addr beats →
      (s.outQueue.length < 16 →
        exec .straightSegmentPlace s = .next (State.conclude
          (State.handedOnIfIdle (State.takeInHand
            { s with
              outQueue := s.outQueue ++ [{ id := s.nextId, kind := .straight job.plane, addr := addr, payload := .write beats }]
              nextId := s.nextId + 1 }
            job.plane job.layout job.todo)))) ∧
      (16 ≤ s.outQueue.length → exec .straightSegmentPlace s = .next s)) ∧
  (∀ (s : State) (job : ReadJob) (p : PlanSegment) (rest : List PlanSegment), s.translator = .readIssue job →
      job.plan = p :: rest →
      let placed : State :=
        { s with
          outQueue := s.outQueue ++ [{ id := s.nextId, kind := .translated p.index, addr := p.addr, payload := .read p.beats }]
          nextId := s.nextId + 1 }
      let left : ReadJob := { job with plan := rest }
      (s.outQueue.length < 16 → rest = [] →
        exec .translatedReadSegmentPlace s = .next (State.conclude { placed with translator := .readWait left })) ∧
      (∀ (q : PlanSegment) (more : List PlanSegment), s.outQueue.length < 16 → rest = q :: more →
        (s.collector.heldFor (q.keys job.plane) = [] →
          exec .translatedReadSegmentPlace s = .next (State.conclude { placed with translator := .readIssue left })) ∧
        (s.collector.heldFor (q.keys job.plane) ≠ [] →
          exec .translatedReadSegmentPlace s = .next (State.conclude
            { placed with
              collector := s.collector.requestPriority (q.keys job.plane)
              translator := .readHeld left (s.collector.heldFor (q.keys job.plane)) }))) ∧
      (16 ≤ s.outQueue.length → exec .translatedReadSegmentPlace s = .next s)) ∧
  (∀ (c : Collector) (keys : List Key) (id : Nat),
      id ∈ c.heldFor keys ↔
        (∃ w ∈ c.priority ++ c.ordinary, w.id = id ∧ w.key ∈ keys) ∨ (∃ e ∈ c.table, e.id = id ∧ e.key ∈ keys)) ∧
  (∀ (p : PlanSegment) (plane : Plane),
      p.keys plane = (List.range p.beats.length).map fun j => { plane := plane, beat := p.addr + 16 * j }) ∧
  (∀ (c : Collector) (k : Key),
      let moves := ((c.ordinary.filter fun w => decide (w.key = k)).map (·.id)) ++ ((c.table.filter fun e => decide (e.key = k)).map (·.id))
      (moves = [] → c.makeRequest k = c) ∧
      (moves ≠ [] →
        c.makeRequest k =
          { c with
            table := c.table.map fun e => if e.key = k then { e with flush := .priorityWaiting } else e
            asked := c.asked.filter fun id => decide (id ∉ moves)
            requests := c.requests ++ [{ key := k, moves := moves }] })) ∧
  (∀ (c : Collector) (keys : List Key), c.requestPriority keys = (keys.foldl Collector.makeRequest c).advance) ∧
  (∀ c : Collector, (c.ordinary.map (·.id) ++ c.table.map (·.id)).Nodup → c.asked.Nodup → (∀ id ∈ c.asked, ∃ e ∈ c.table, e.id = id) →
      let held := c.ordinary ++ c.table.map fun e => { id := e.id, key := e.key, data := e.data }
      let order := (c.requests.flatMap (·.moves)).eraseDups
      let moved := (order.filterMap fun id => held.find? fun w => decide (w.id = id)).take (16 - c.priority.length)
      let stays := fun id : Nat => decide (∀ w ∈ moved, w.id ≠ id)
      let promoted : Collector :=
        { c with
          ordinary := c.ordinary.filter fun w => stays w.id
          priority := c.priority ++ moved
          table := c.table.filter fun e => stays e.id
          asked := c.asked.filter stays
          requests :=
            (c.requests.map fun r =>
              { r with moves := r.moves.filter fun id => stays id && decide (∃ w ∈ held, w.id = id) }).filter
              fun r => decide (r.moves ≠ []) }
      let leaving :=
        (promoted.asked.filterMap fun id => promoted.table.find? fun e => decide (e.id = id)).take (16 - promoted.ordinary.length)
      c.advance =
        { promoted with
          table := promoted.table.filter fun e => decide (e ∉ leaving)
          ordinary := promoted.ordinary ++ leaving.map fun e => { id := e.id, key := e.key, data := e.data }
          asked := promoted.asked.filter fun id => decide (∀ e ∈ leaving, e.id ≠ id) })

/-- R54, R55, R80 to R83, R91: an insert whose key the table holds is merged byte by byte, at once and whatever its view, and a HELD entry
it completes is asked for an ordinary flush, but not one whose beat is shared with another view. A new key makes an entry at the tail
while there is room; in SLEEP-DRAIN the new entry is at once asked for an ordinary flush, and leaves for the ordinary queue where that has
room and none was asked before it, or else stands as ORDINARY-WAITING. A full table evicts its oldest entry if that is HELD, at once where
the ordinary queue has room and none was asked before it, and else makes it ORDINARY-WAITING; an oldest entry already on its way is waited
for. The insert in hand reaches the collector; taken, the translator goes on; turned away, it waits in hand, and an eviction is counted.
One that waits reaches the collector again at the end of any step that leaves the table fewer than 256 entries (log 19). The lanes of one
view never fill a beat shared with another. That the lanes of two turned views that share a beat meet in its one entry, and leave by the
other flushes, is the model's choice between R54 and R80 (log 31). -/
def Obligations.InsertsReachTheCollector : Prop :=
  let merge := fun (c : Collector) (i : Insert) (e : Entry) =>
    let merged : Collector :=
      { c with table := c.table.map fun x => if x.id = e.id then { x with data := Collector.mergeBeat e.data i.lane i.bytes } else x }
    if completeBeat (Collector.mergeBeat e.data i.lane i.bytes) = true ∧ i.shared = false then merged.askOrdinary e.id else merged
  let offered := fun (s : State) (job : WriteJob) (i : Insert) =>
    let a := s.collector.insert i s.nextId (decide (s.front.link = .sleepDrain))
    let u : State :=
      { s with
        collector := a.collector
        nextId := if a.created then s.nextId + 1 else s.nextId
        status :=
          { s.status with
            counters :=
              { s.status.counters with
                eviction := if a.evicted then min 65535 (s.status.counters.eviction + 1) else s.status.counters.eviction } } }
    if a.taken then State.handedOnIfIdle (u.takeInHand job.plane job.layout job.todo)
    else { u with translator := .writing { job with hand := .insert i true } }
  (∀ (c : Collector) (i : Insert) (id : Nat) (sleeping : Bool) (e : Entry), c.entryFor i.key = some e →
      c.insert i id sleeping = { collector := merge c i e, taken := true, created := false, evicted := false }) ∧
  (∀ (l : Layout) (v w : View) (b y : Nat), l.Sound → v ∈ l.views → w ∈ l.views → v.number ≠ w.number →
      (∃ k < 4, w.panelRect.covers (4 * b + k) y = true) → ∃ k < 4, v.panelRect.covers (4 * b + k) y = false) ∧
  (∀ (c : Collector) (i : Insert) (id : Nat) (sleeping : Bool), c.entryFor i.key = none → (∀ x ∈ c.table, x.id ≠ id) →
      let data := Collector.mergeBeat Collector.emptyBeat i.lane i.bytes
      let entry : Entry := { id := id, key := i.key, data := data, age := 0, flush := .held }
      let withEntry := fun d : Collector =>
        if sleeping = false then { d with table := d.table ++ [entry] }
        else if d.asked = [] ∧ d.ordinary.length < 16 then { d with ordinary := d.ordinary ++ [{ id := id, key := i.key, data := data }] }
        else { d with table := d.table ++ [{ entry with flush := .ordinaryWaiting }], asked := d.asked ++ [id] }
      (c.table.length < 256 →
        c.insert i id sleeping = { collector := withEntry c, taken := true, created := true, evicted := false }) ∧
      (∀ (oldest : Entry) (rest : List Entry), c.table = oldest :: rest → c.table.length = 256 → (∀ x ∈ rest, x.id ≠ oldest.id) →
        (oldest.flush = .held → c.ordinary.length < 16 → c.asked = [] →
          c.insert i id sleeping =
            { collector := withEntry { c with table := rest, ordinary := c.ordinary ++ [oldest.toWrite] },
              taken := true, created := true, evicted := true }) ∧
        (oldest.flush = .held → (16 ≤ c.ordinary.length ∨ c.asked ≠ []) →
          c.insert i id sleeping =
            { collector := { c with table := { oldest with flush := .ordinaryWaiting } :: rest, asked := c.asked ++ [oldest.id] },
              taken := false, created := false, evicted := true }) ∧
        (oldest.flush ≠ .held → c.insert i id sleeping = { collector := c, taken := false, created := false, evicted := false }))) ∧
  (∀ (s : State) (job : WriteJob) (i : Insert), s.translator = .writing job → job.hand = .insert i false →
      exec .collectorInsert s = .next (State.conclude (offered s job i))) ∧
  (∀ (s : State) (job : WriteJob) (i : Insert), s.translator = .writing job → job.hand = .insert i true →
      exec .collectorInsert s = .next s ∧
        (s.collector.table.length < 256 → s.retryInsert = offered s job i) ∧
        (256 ≤ s.collector.table.length → s.retryInsert = s)) ∧
  (∀ s : State, s.waitingInsert = none → s.retryInsert = s)

/-! ### The port (R150 to R154) -/

/-- R150: memory's finish of a write burst is the completion whatever its source: every enabled byte of it is in memory, and every
other byte reads as before. A read completes when its last beat has returned and not before, and writes nothing; that its completion is a
step of its own, which may come later than the return of that beat, is the model's choice (log 33). -/
def Obligations.FinishedBurstCompletes : Prop :=
  (∀ (s : State) (f : Flight) (beats : List MaskedBeat), s.port = some f → f.payload = .write beats →
      ∃ t, exec .burstComplete s = .next t ∧
        (∀ a, (a < f.addr ∨ f.addr + 16 * beats.length ≤ a) → Memory.read a t.mem = Memory.read a s.mem) ∧
        (∀ n k j, n < beats.length → k < 4 → j < 4 → f.addr + 16 * n + 4 * k + j < 4294967296 →
          Memory.read (f.addr + 16 * n + 4 * k + j) t.mem =
            match ((beats.getD n Collector.emptyBeat).get k).get j with
            | some v => some v
            | none => Memory.read (f.addr + 16 * n + 4 * k + j) s.mem) ∧
        t.pins = s.pins ∧ t.front = s.front ∧ t.inbound = s.inbound ∧ t.tracker = s.tracker) ∧
  (∀ (s : State) (f : Flight) (beats : List EnableBeat), s.port = some f → f.payload = .read beats →
      (f.moved = beats.length → ∃ t, exec .burstComplete s = .next t ∧ t.mem = s.mem ∧ t.inbound = s.inbound) ∧
      (f.moved ≠ beats.length → exec .burstComplete s = .next s))

/-- R10, R61, R79, R89, R104, R154: a written path segment clears the mailbox outstanding indication it set and leaves the drain snapshot;
a written flush leaves its drain sets and the hold of a read, and the last write a held read waits for releases it, in the same step where
the output queue has room (log 19); an unwanted segment is reported to no one. -/
def Obligations.WrittenBurstIsReported : Prop :=
  (∀ (s : State) (f : Flight) (id : Nat) (kind : SegmentKind), s.port = some f → f.origin = .path id kind →
      f.payload.isWrite = true → ∃ t, exec .burstComplete s = .next t ∧
        t.mailboxOutstanding =
          (if f.wanted = true ∧ s.mailboxOutstanding = some id then none else s.mailboxOutstanding) ∧
        (∀ r, f.wanted = true → s.planes.switch = .armed r → s.frame.scanStopped = false →
          t.planes.switch = .armed { r with pathWaiting := r.pathWaiting.filter (· ≠ id) }) ∧
        (f.wanted = false → s.frame.scanStopped = false → t.planes = s.planes)) ∧
  (∀ (s : State) (f : Flight) (id : Nat) (key : Key), s.port = some f → f.wanted = true → f.payload.isWrite = true →
      (f.origin = .priority id key ∨ f.origin = .ordinary id key) → ∃ t, exec .burstComplete s = .next t ∧
        (∀ r, s.planes.switch = .armed r → s.frame.scanStopped = false →
          ∃ r', t.planes.switch = .armed r' ∧
            r'.collectorWaiting = (r.collectorWaiting && (s.collector.leaveDrains fun x => decide (x = id)).draining r.commit)) ∧
        (∀ job matched, s.translator = .readHeld job matched → matched.filter (· ≠ id) ≠ [] →
          t.translator = .readHeld job (matched.filter (· ≠ id))) ∧
        (∀ job matched p, s.translator = .readHeld job matched → matched.filter (· ≠ id) = [] → job.plan = [p] →
          s.outQueue.length < 16 → t.translator = .readWait { job with plan := [] }))

/-- R140, R142, R146 to R149: a written fill burst raises the head job's beats and moves the cursor, and the next burst is built there
unless a pause was asked; the job that has no region beat left leaves the queue with FILL-DONE. The burst of a job that UNBIND or a reset
has cancelled (log 29) moves no job; the engine's hand is empty again, and a pause asked takes effect. That no other job is taken up in
the same step, after a job that has ended or been cancelled, is the model's choice: a job starts by its own row (log 20). -/
def Obligations.WrittenFillBurstMovesTheJob : Prop :=
  (∀ (s : State) (f : Flight) (b : FillBurst) (data : List MaskedBeat), s.port = some f → f.origin = .fill → f.wanted = true →
    f.payload = .write data → s.fill.burst = some b → b.cancelled = true →
    exec .burstComplete s = .next (State.concludeCompletion s
      { s with
        port := none
        mem := Memory.writeBeats f.addr data s.mem
        fill := { s.fill with burst := none, paused := s.fill.paused || s.fill.pauseAsked, pauseAsked := false } })) ∧
  ∀ (s : State) (f : Flight) (b : FillBurst) (job : FillJob) (rest : List FillJob) (c : Cursor), s.port = some f →
    f.origin = .fill → f.wanted = true → f.payload.isWrite = true → s.fill.burst = some b → b.cancelled = false →
    s.fill.jobs = job :: rest → job.cursor = some c → ∃ t, exec .burstComplete s = .next t ∧
      (∀ c', cursorFrom job.rects job.holes c (c.beat + b.beats.length) = some c' →
        t.fill.jobs.head? = some { job with cursor := some c', beatsWritten := job.beatsWritten + b.beats.length } ∧
          (s.fill.pauseAsked = true → t.fill.paused = true ∧ t.fill.burst = none) ∧
          (s.fillMayWork = true → ∀ r, job.rects[c'.rect]? = some r → ∃ b', t.fill.burst = some b' ∧
            b'.addr = planeBase s.fb job.plane + c'.row * 9600 + c'.beat * 16 ∧
            b'.beats =
              (List.range (runLength r job.holes c'.row 16 c'.beat)).map fun j =>
                Quad.ofFn fun k =>
                  fillLane (s.boundSpine job.plane) r job.holes (job.colour.getD (Quad.replicate 0)) c'.row (4 * (c'.beat + j) + k))) ∧
      (cursorFrom job.rects job.holes c (c.beat + b.beats.length) = none →
        t.flag .fillDone = true ∧ t.fill.jobs.take rest.length = rest ∧
          (job.kind = .background → (t.planes.entry job.plane).backgroundPending = false))

/-- R154: a returned beat of a chain fetch goes to the layout table, one of a pass read upstream when it is the next beat of the
oldest entry, and one whose source was discarded nowhere; bytes the part has written return as written (log 9). One of a translated
read fills the lanes the assembly map ties to it, every beat so filled is complete in the response list and goes upstream when all
before it have; with the plan empty and every beat filled the piece is handed on. -/
def Obligations.ReturnedBeatGoesToItsSource : Prop :=
  (∀ (s : State) (f : Flight) (beats : List EnableBeat) (other : DataBeat), s.port = some f → f.payload = .read beats →
      f.moved < beats.length →
      let data := Memory.returnBeat s.mem (f.addr + 16 * f.moved) other
      ∃ t, exec (.readDataReturn other) s = .next t ∧ t.port = some { f with moved := f.moved + 1 } ∧ t.mem = s.mem ∧
        (∀ l, f.wanted = true → f.origin = .fetch → s.layouts.load = some l →
          t.layouts.load = some { l with data := l.data ++ [data] }) ∧
        (∀ id e first (entry : Response) (rest : List Response), f.wanted = true → f.origin = .path id (.pass (some (e, first))) →
          s.responses = entry :: rest → entry.id = e → entry.sent = first + f.moved → first + f.moved < entry.beats.length →
          ∃ more, t.sentUpstream = s.sentUpstream ++ data :: more) ∧
        (f.wanted = false → s.swapDue = none → s.waitingInsert = none → t = { s with port := some { f with moved := f.moved + 1 } })) ∧
  (∀ (s : State) (f : Flight) (beats : List EnableBeat) (other : DataBeat) (id index : Nat) (job : ReadJob), s.port = some f →
      f.payload = .read beats → f.moved < beats.length → f.wanted = true → f.origin = .path id (.translated index) →
      let data := Memory.returnBeat s.mem (f.addr + 16 * f.moved) other
      let filled := job.assembly.map fun q => q.map (LaneSource.fill index f.moved data)
      let left : ReadJob := { job with assembly := filled }
      let after := fun x : Translator =>
        State.sendUpstream (State.setAssembled { s with port := some { f with moved := f.moved + 1 }, translator := x } job.response
          job.first filled)
      (s.translator = .readIssue job → exec (.readDataReturn other) s = .next (after (.readIssue left)).conclude) ∧
        (∀ matched, s.translator = .readHeld job matched →
          exec (.readDataReturn other) s = .next (after (.readHeld left matched)).conclude) ∧
        (s.translator = .readWait job →
          ((∃ q ∈ filled, assembledBeat q = none) → exec (.readDataReturn other) s = .next (after (.readWait left)).conclude) ∧
          ((∀ q ∈ filled, assembledBeat q ≠ none) →
            exec (.readDataReturn other) s = .next (State.conclude (after .idle).pieceHandedOn)))) ∧
  (∀ (s : State) (id first : Nat) (assembly : List (Quad LaneSource)),
      s.setAssembled id first assembly =
        { s with
          responses := s.responses.map fun e =>
            if e.id = id then
              { e with
                beats := e.beats.mapIdx fun j b =>
                  match (if first ≤ j then assembly[j - first]?.bind assembledBeat else none) with
                  | some data => some data
                  | none => b }
            else e }) ∧
  (∀ (q : Quad LaneSource) (data : DataBeat), assembledBeat q = some data ↔ ∀ k < 4, q.get k = .filled (data.get k)) ∧
  (∀ (s : State) (e : Response) (rest : List Response) (ready : List DataBeat) (wait : List (Option DataBeat)),
      s.responses = e :: rest → e.sent ≤ e.beats.length → e.beats.drop e.sent = ready.map some ++ wait →
      (wait = [] →
        s.sendUpstream.sentUpstream = s.sentUpstream ++ ready ++ (sendReady rest).1 ∧ s.sendUpstream.responses = (sendReady rest).2) ∧
      (∀ more, wait = none :: more →
        s.sendUpstream =
          { s with
            sentUpstream := s.sentUpstream ++ ready
            responses := { e with sent := e.sent + ready.length } :: rest }))

/-- R27, R28, R30 to R38, R152: the HEAD fetch is offered once the mailbox outstanding indication is clear; an IDLE port with no
record write offered takes it, a read of 2 beats of the record. When a chain record is in, the load goes on with the next fetch, or
installs the layout, or restores the slot; a load's end is recorded with its result, busy clear and LOAD-DONE set. A record is
checked for its kind, then its fields, then its link, each by the conditions of its rule in their order; at END come the checks of
the whole layout in theirs. -/
def Obligations.ChainFetchesAreOfferedAndWalked : Prop :=
  (∀ (s : State) (l : Load), s.layouts.load = some l → l.phase = .waiting →
      (s.mailboxOutstanding = none → ∃ t, exec .headFetchOffer s = .next t ∧
        (s.port.isSome = true → t.layouts.load = some { l with phase := .offered, data := [] }) ∧
        (s.port = none → s.status.write = .quiet → s.swapDue = none → s.waitingInsert = none → l.kind = .head →
          t.layouts.load = some { l with phase := .inFlight, data := [] } ∧
            t.port =
              some
                { origin := .fetch, addr := s.fb + 0x4000000 + l.offset,
                  payload := .read (List.replicate 2 (Quad.replicate (Quad.replicate true))), moved := 0, wanted := true })) ∧
      (s.mailboxOutstanding ≠ none → exec .headFetchOffer s = .next s)) ∧
  (∀ (s : State) (f : Flight) (beats : List EnableBeat) (l : Load), s.port = some f → f.origin = .fetch → f.wanted = true →
      f.payload = .read beats → f.moved = beats.length → s.layouts.load = some l → ∃ t, exec .burstComplete s = .next t ∧
        (∀ kind offset, (checkRecord l (beatsBytes l.data)).2 = .fetch kind offset →
          (∃ l', t.layouts.load = some l' ∧ l'.slot = l.slot ∧ l'.kind = kind ∧ l'.offset = offset ∧ l'.fetched = l.fetched + 1 ∧
            l'.staging = (checkRecord l (beatsBytes l.data)).1 ∧ l'.data = []) ∧
          t.layouts.slots = s.layouts.slots ∧ t.decoder = s.decoder) ∧
        (∀ layout, (checkRecord l (beatsBytes l.data)).2 = .install layout →
          t.layouts.load = none ∧ t.layouts.slots = s.layouts.slots.set l.slot (.ready layout) ∧
            t.decoder = { s.decoder with busy := false, lastResult := .ok } ∧ t.flag .loadDone = true) ∧
        (∀ r, (checkRecord l (beatsBytes l.data)).2 = .fail r →
          t.layouts.load = none ∧ t.layouts.slots = s.layouts.slots.set l.slot (restoredSlot s.layouts.slots[l.slot]) ∧
            t.decoder = { s.decoder with busy := false, lastResult := r } ∧ t.flag .loadDone = true)) ∧
  (∀ (l : Load) (bytes : List Byte),
      let after := checkRecord l bytes
      let st := l.staging
      let link := fun st' : Staging => (st', checkLink st' (l.fetched + 1) bytes)
      let b := byteAt bytes
      let h := half bytes
      (b 0 ≠ (match l.kind with | .head => 1 | .view => 2 | .spine => 3 | .guard => 4) → after.2 = .fail .badRecord) ∧
      (l.kind = .head → b 0 = 1 →
        (¬(1 ≤ b 10 ∧ b 10 ≤ 6) → after.2 = .fail .badView) ∧
        (1 ≤ b 10 → b 10 ≤ 6 →
          after = link { st with head := some { tag := h 8, background := colourAt bytes 12, declared := b 10 } })) ∧
      (l.kind = .view → b 0 = 2 →
        let turned := h 10 = 90 ∨ h 10 = 270
        let base := long bytes 12
        let stride := long bytes 20
        let sound :=
          b 8 ≤ 5 ∧ (h 10 = 0 ∨ h 10 = 90 ∨ h 10 = 180 ∨ h 10 = 270) ∧ (4 ≤ h 16 ∧ h 16 ≤ 2400 ∧ 4 ≤ h 18 ∧ h 18 ≤ 2400) ∧
            base % 256 = 0 ∧ (stride % 16 = 0 ∧ h 16 * 4 ≤ stride) ∧ (¬turned → h 24 % 4 = 0 ∧ h 16 % 4 = 0) ∧
            base + stride * h 18 ≤ 33554432 ∧
            (turned → h 24 + h 18 ≤ 2400 ∧ h 26 + h 16 ≤ 1800) ∧ (¬turned → h 24 + h 16 ≤ 2400 ∧ h 26 + h 18 ≤ 1800)
        (¬sound → after.2 = .fail .badView) ∧
        (sound → ∃ rotation,
          h 10 = (match rotation with | Rotation.r0 => 0 | Rotation.r90 => 90 | Rotation.r180 => 180 | Rotation.r270 => 270) ∧
          after =
            link
              { st with
                views := st.views.set (b 8) (some
                  { number := b 8, rotation := rotation, mirror := decide (b 9 % 2 = 1), base := base, wv := h 16, hv := h 18,
                    sv := stride, x0 := h 24, y0 := h 26 })
                viewCount := st.viewCount + 1 })) ∧
      (l.kind = .spine → b 0 = 3 →
        let sound := (8 ≤ h 10 ∧ h 10 ≤ 256) ∧ h 10 % 8 = 0 ∧ b 12 = h 10 / 8 + 1
        (¬sound → after.2 = .fail .badSpine) ∧
        (sound →
          after =
            link
              { st with
                spine := some { start := h 8, width := h 10, knots := (List.range (b 12)).map fun j => h (16 + 2 * j) }
                spineCount := st.spineCount + 1 })) ∧
      (l.kind = .guard → b 0 = 4 →
        let rects : List Rect :=
          (List.range (b 13)).map fun r =>
            { x := h (16 + 8 * r), y := h (18 + 8 * r), width := h (20 + 8 * r), height := h (22 + 8 * r) }
        let sound := b 12 % 8 ≠ 0 ∧ (1 ≤ b 13 ∧ b 13 ≤ 4) ∧ ∀ r ∈ rects, 1 ≤ r.width ∧ 1 ≤ r.height
        (¬sound → after.2 = .fail .badGuard) ∧
        (sound →
          after =
            link
              { st with
                guard :=
                  some
                    { colour := colourAt bytes 8, onClosed := decide (b 12 % 2 = 1), onPartial := decide (b 12 / 2 % 2 = 1),
                      onOpen := decide (b 12 / 4 % 2 = 1), rects := rects }
                guardCount := st.guardCount + 1 }))) ∧
  (∀ (st : Staging) (fetched : Nat) (bytes : List Byte),
      let next := byteAt bytes 4
      let offset := half bytes 6
      let step := checkLink st fetched bytes
      (next = 0 →
        (∀ layout, checkWhole st = .ok layout → step = .install layout) ∧ (∀ r, checkWhole st = .error r → step = .fail r)) ∧
      (4 < next ∨ next = 1 → step = .fail .badRecord) ∧
      (∀ kind size, ((next = 2 ∧ kind = .view ∧ size = 32) ∨ (next = 3 ∧ kind = .spine ∧ size = 128) ∨
            (next = 4 ∧ kind = .guard ∧ size = 64)) →
        step =
          if offset % 32 ≠ 0 ∨ offset < 0x200 ∨ 0x10000 < offset + size then .fail .chainRange
          else if 16 ≤ fetched then .fail .chainLong
          else .fetch kind offset)) ∧
  (∀ (st : Staging) (head : HeadRecord), st.head = some head →
      let views := st.views.filterMap id
      let windowsApart := fun v w : View => ¬(v.base < w.base + w.sv * w.hv ∧ w.base < v.base + v.sv * v.hv)
      let placesApart := fun v w : View =>
        ¬(v.x0 < w.x0 + w.pw ∧ w.x0 < v.x0 + v.pw ∧ v.y0 < w.y0 + w.ph ∧ w.y0 < v.y0 + v.ph)
      checkWhole st =
        if ¬(st.viewCount = head.declared ∧ st.viewCount = views.length) then .error .badView
        else if 2 ≤ st.spineCount then .error .badSpine
        else if 2 ≤ st.guardCount then .error .badGuard
        else if ¬views.Pairwise windowsApart then .error .overlap
        else if ¬views.Pairwise placesApart then .error .overlap
        else if ¬(∀ sp ∈ st.spine, sp.start + sp.width ≤ 2400) then .error .badSpine
        else if ¬(∀ g ∈ st.guard, ∀ r ∈ g.rects, r.x + r.width ≤ 2400 ∧ r.y + r.height ≤ 1800) then .error .badGuard
        else .ok { tag := head.tag, background := head.background, views := views, spine := st.spine, guard := st.guard })

/-- R153: a choice point of an IDLE port grants control traffic first (the fetch if it was offered first), then the priority
queue, then the first standing source of the ring from the pointer; with no offer the port stays IDLE. A grant of control or of the
priority queue leaves the pointer. The choice point of a completion grants by the same order among the offers it sees: every one that
stood before, and one that begins then if the free value says so (log 6); the ordinary queue only while the priority queue is empty. That it
is made after the swaps then due, at most two (log 27), and the waiting insert is the model's choice (log 5); of two control offers begun
in the one step either goes first (log 8). -/
def Obligations.ChoicePointGrantsInOrder : Prop :=
  (∀ s : State, s.port = none →
    (∀ f, s.choicePoint.port = some f →
      (f.origin = .fetch → s.stands .fetch = true ∧ (s.stands .record = true → s.fetchFirst = true)) ∧
      (f.origin = .record → s.stands .record = true ∧ (s.stands .fetch = true → s.fetchFirst = false)) ∧
      ((∃ id key, f.origin = .priority id key) → s.stands .fetch = false ∧ s.stands .record = false) ∧
      (((∃ id key, f.origin = .ordinary id key) ∨ (∃ id kind, f.origin = .path id kind) ∨ f.origin = .fill) →
        s.stands .fetch = false ∧ s.stands .record = false ∧ s.stands .priority = false ∧
          ((∃ id kind, f.origin = .path id kind) →
            s.choicePoint.pointer = .ordinary ∧ (s.pointer = .ordinary → s.stands .ordinary = false ∧ s.stands .fill = false) ∧
              (s.pointer = .fill → s.stands .fill = false)) ∧
          ((∃ id key, f.origin = .ordinary id key) →
            s.choicePoint.pointer = .fill ∧ (s.pointer = .fill → s.stands .fill = false ∧ s.stands .path = false) ∧
              (s.pointer = .path → s.stands .path = false)) ∧
          (f.origin = .fill →
            s.choicePoint.pointer = .path ∧ (s.pointer = .path → s.stands .path = false ∧ s.stands .ordinary = false) ∧
              (s.pointer = .ordinary → s.stands .ordinary = false)))) ∧
    (s.choicePoint.port = none ↔ ∀ x, s.stands x = false)) ∧
  (∀ s : State, (s.grant .fetch).pointer = s.pointer ∧ (s.grant .record).pointer = s.pointer ∧ (s.grant .priority).pointer = s.pointer) ∧
  (∀ before s : State,
    let seen := State.seenAtCompletion before s
    (∀ x, s.stands x = false → seen x = false) ∧
      (∀ x, before.stands x = true → s.stands x = true → before.offerName x = s.offerName x →
        (x ≠ .ordinary ∨ s.collector.priority = []) → seen x = true) ∧
      (s.collector.priority ≠ [] → seen .ordinary = false) ∧
      ((∀ x, seen x = false) →
        State.completionChoice before s = { s.choicePoint with freeCount := s.freeCount + 1 }) ∧
      ((∃ x, seen x = true) →
        ∃ x, seen x = true ∧ State.completionChoice before s = { s.grant x with freeCount := s.freeCount + 1 } ∧
          (x = .fetch → seen .record = true → s.fetchFirst = true) ∧ (x = .record → seen .fetch = true → s.fetchFirst = false) ∧
          (x ≠ .fetch → x ≠ .record → seen .fetch = false ∧ seen .record = false) ∧
          ((x = .path ∨ x = .ordinary ∨ x = .fill) → seen .priority = false) ∧
          (x = .path →
            (s.pointer = .ordinary → seen .ordinary = false ∧ seen .fill = false) ∧ (s.pointer = .fill → seen .fill = false)) ∧
          (x = .ordinary → (s.pointer = .fill → seen .fill = false ∧ seen .path = false) ∧ (s.pointer = .path → seen .path = false)) ∧
          (x = .fill →
            (s.pointer = .path → seen .path = false ∧ seen .ordinary = false) ∧ (s.pointer = .ordinary → seen .ordinary = false)))) ∧
  (∀ before s : State,
    let ready := (State.settleSwaps 2 s).retryInsert
    let chosen := (State.completionChoice before ready).retryInsert
    let both :=
      chosen.stands .fetch = true ∧ chosen.stands .record = true ∧ before.stands .fetch = false ∧ before.stands .record = false
    (∃ b n, State.concludeCompletion before s = { chosen with fetchFirst := b, freeCount := n }) ∧
      (¬both → State.concludeCompletion before s = chosen))

/-! ### Timers and the swap (R84, R97 to R108) -/

/-- R84, R86: at an age tick every entry ages to at most 2. The HELD entries that reach age 2 are asked for an ordinary flush, oldest
first: as many as the ordinary queue has room for leave the table for its tail, provided none was asked before them, and the rest
become ORDINARY-WAITING in that order. Every other entry stays as it was but for its age. A stopped timer does not expire. -/
def Obligations.AgeTickAgesTheTable : Prop :=
  ∀ s : State,
    (s.collector.ageTimer.isSome = true → (s.collector.table.map (·.id)).Nodup →
      let due := s.collector.table.filter fun e => decide (e.age = 1 ∧ e.flush = .held)
      let room := if s.collector.asked = [] then 16 - s.collector.ordinary.length else 0
      let leaving := due.take room
      let waiting := due.drop room
      exec .ageTick s = .next (State.conclude
        { s with
          collector :=
            { s.collector with
              table :=
                (s.collector.table.filter fun e => decide (e ∉ leaving)).map fun e =>
                  { e with age := min 2 (e.age + 1), flush := if e ∈ waiting then .ordinaryWaiting else e.flush }
              ordinary := s.collector.ordinary ++ leaving.map fun e => { id := e.id, key := e.key, data := e.data }
              asked := s.collector.asked ++ waiting.map (·.id) } })) ∧
    (s.collector.ageTimer = none → exec .ageTick s = .next s)

/-- R97, R98, R105, R106: at a blank start an armed swap whose drain is complete moves the select line, and one whose drain is not sets
SWAP-LATE and counts it. A frame start is counted, restarts the scan-stopped timer and clears its flag, and a swap whose select has
moved is done, with a re-evaluation of the posture (R111; `finishSwap` is written out in `EndOfStep`). -/
def Obligations.FrameTimingCarriesTheSwap : Prop :=
  (∀ s : State, s.pins.frameSync = true → s.pins.powerOnReset = false →
      ∃ t, exec .blankStart s = .next t ∧ t.pins = { s.pins with frameSync := false } ∧ t.frame = s.frame ∧
        (∀ r, s.planes.switch = .armed r → r.selectMoved = false → s.drainComplete r = true → s.frame.scanStopped = false →
          t.planes = { s.planes with select := r.target, switch := .armed { r with selectMoved := true } }) ∧
        (∀ r, s.planes.switch = .armed r → r.selectMoved = false → s.drainComplete r = false →
          t.planes = s.planes ∧ t.flag .swapLate = true ∧
            t.status.counters.lateSwaps = min 65535 (s.status.counters.lateSwaps + 1)) ∧
        (s.planes.switch = .steady ∨ (∃ r, s.planes.switch = .armed r ∧ r.selectMoved = true ∧ s.frame.scanStopped = false) →
          t.planes = s.planes)) ∧
  (∀ s : State, s.pins.frameSync = false → s.pins.powerOnReset = false →
      ∃ t, exec .frameStart s = .next t ∧ t.pins = { s.pins with frameSync := true } ∧
        t.frame = { counter := s.frame.counter + 1, scanStopped := false, scanTimer := some 50 } ∧
        (∀ r, s.planes.switch = .armed r → r.selectMoved = true →
          t.planes.scanned = r.target ∧ t.planes.select = r.target ∧ t.flag .swapDone = true ∧
            (∀ p, (t.planes.entry p).binding = (s.planes.entry p).binding)) ∧
        ((s.planes.switch = .steady ∨ ∃ r, s.planes.switch = .armed r ∧ r.selectMoved = false) → t.planes = s.planes) ∧
        (let counted : State :=
          { s with
            pins := { s.pins with frameSync := true }
            frame := { counter := s.frame.counter + 1, scanStopped := false, scanTimer := some 50 } }
         (∀ r, s.planes.switch = .armed r → r.selectMoved = true → t = State.conclude (counted.finishSwap r)) ∧
           ((s.planes.switch = .steady ∨ ∃ r, s.planes.switch = .armed r ∧ r.selectMoved = false) → t = counted.conclude)))

/-- R98, R107, R108: the scan-stopped timer's expiry sets the flag, and an armed swap that is drained or has moved select is done at
once, with a re-evaluation of the posture (R111), after which the step ends as every step does (log 5). The swap limit passing before the
select line moves abandons the swap, sets SWAP-ABANDONED, counts it and has the posture re-evaluated; after the move it has no effect. -/
def Obligations.ScanStopAndSwapLimitEndTheSwap : Prop :=
  (∀ s : State, s.frame.scanTimer.isSome = true → ∃ t, exec .scanStopped s = .next t ∧
      t.frame = { s.frame with scanStopped := true, scanTimer := none } ∧
      (∀ r, s.planes.switch = .armed r → (r.selectMoved = true ∨ s.drainComplete r = true) → t.flag .swapDone = true ∧
        (s.tracker.settled = none → t.planes.scanned = r.target ∧ t.planes.select = r.target ∧ t.planes.switch = .steady)) ∧
      (∀ r, s.planes.switch = .armed r → r.selectMoved = false → s.drainComplete r = false → t.planes = s.planes) ∧
      (s.planes.switch = .steady → t.planes = s.planes) ∧
      (let stopped : State := { s with frame := { s.frame with scanStopped := true, scanTimer := none } }
       t = stopped.conclude ∧
         ∀ r, s.planes.switch = .armed r → (r.selectMoved = true ∨ s.drainComplete r = true) →
           t = (State.settleSwaps 1 (stopped.finishSwap r)).retryInsert.choicePoint.retryInsert)) ∧
  (∀ (s : State) (r : ArmRecord), s.planes.switch = .armed r →
      (r.selectMoved = true → exec .swapLimit s = .next s) ∧
      (r.selectMoved = false → ∃ t, exec .swapLimit s = .next t ∧ t.flag .swapAbandoned = true ∧
        t.status.counters.abandonedSwaps = min 65535 (s.status.counters.abandonedSwaps + 1) ∧
        (s.tracker.settled = none →
          t.planes = { s.planes with switch := .steady } ∧ t.fill.jobs = s.fill.jobs) ∧
        (let told : State := State.report { s with planes := { s.planes with switch := .steady } } .swapAbandoned
         let counters := told.status.counters
         t = State.conclude (State.reevaluate
           { told with
             status :=
               { told.status with counters := { counters with abandonedSwaps := min 65535 (counters.abandonedSwaps + 1) } } }))))

/-- R111, R112, R113, R144: re-evaluation does nothing while the posture is UNKNOWN; of a settled posture it acts by where the posture's
slot is bound and how the switch stands. An auto-commit arms the switch as a COMMIT does, with its drain snapshot (`CommitAndCancel`). In
the unserved case UNSERVED is set, and where the guard of the SCANNED plane's layout names the posture a GUARD job is asked for: merged
with the one that stands, accepted at the tail, or refused by a full queue with GUARD-DROPPED. -/
def Obligations.ReevaluationFollowsTheTable : Prop :=
  (∀ s : State, s.tracker.settled = none → s.reevaluate = s) ∧
  (∀ (s : State) (p : Posture), s.tracker.settled = some p →
    let scannedServes := ∃ i, s.tracker.map.slotFor p = some i ∧ (s.planes.entry s.planes.scanned).binding = some i
    let idleServes := ∃ i, s.tracker.map.slotFor p = some i ∧ (s.planes.entry s.planes.idle).binding = some i
    (s.planes.switch = .steady →
      (scannedServes → s.reevaluate = s) ∧
      (¬scannedServes → idleServes →
        s.reevaluate = s.arm .auto ∧
          ∃ r, s.reevaluate.planes.switch = .armed r ∧ r.cause = .auto ∧ r.target = s.planes.idle ∧ r.selectMoved = false) ∧
      (¬scannedServes → ¬idleServes → s.reevaluate.planes = s.planes ∧ s.reevaluate.flag .unserved = true ∧
        s.reevaluate = (s.report .unserved).guardFor p)) ∧
    (∀ r, s.planes.switch = .armed r → r.cause = .host → s.reevaluate = s) ∧
    (∀ r, s.planes.switch = .armed r → r.cause = .auto → r.selectMoved = false →
      (scannedServes → s.reevaluate = { s with planes := { s.planes with switch := .steady } }) ∧
      (¬scannedServes → idleServes → s.reevaluate = s) ∧
      (¬scannedServes → ¬idleServes →
        s.reevaluate.planes = { s.planes with switch := .steady } ∧ s.reevaluate.flag .unserved = true ∧
          s.reevaluate = (State.report { s with planes := { s.planes with switch := .steady } } .unserved).guardFor p)) ∧
    (∀ r, s.planes.switch = .armed r → r.cause = .auto → r.selectMoved = true →
      ((scannedServes ∨ idleServes) → s.reevaluate = s) ∧
      (¬scannedServes → ¬idleServes → s.reevaluate.planes = s.planes ∧ s.reevaluate.flag .unserved = true ∧
        s.reevaluate = (s.report .unserved).guardFor p))) ∧
  (∀ (s : State) (p : Posture),
    let scanned := s.planes.scanned
    let asked := ∃ l g, s.boundLayout scanned = some l ∧ l.guard = some g ∧
      ((p = .CLOSED ∧ g.onClosed = true) ∨ (p = .PARTIAL ∧ g.onPartial = true) ∨ (p = .OPEN ∧ g.onOpen = true))
    let stands := ∃ j ∈ s.fill.jobs, j.plane = scanned ∧ j.kind = .guard
    (¬asked → s.guardFor p = s) ∧ (asked → stands → s.guardFor p = s) ∧
      (asked → ¬stands → s.fill.jobs.length < 4 →
        s.guardFor p =
          { s with
            fill :=
              { s.fill with
                jobs :=
                  s.fill.jobs ++
                    [{ plane := scanned, kind := .guard, rects := [], holes := [], colour := none, cursor := none, beatsWritten := 0 }] } }) ∧
      (asked → ¬stands → 4 ≤ s.fill.jobs.length → s.guardFor p = s.report .guardDropped))

/-! ### The fold tracker (R119 to R134) -/

/-- R111, R119, R120, R121, R125, R127: the sample timer begins a sample when none is in progress; the read of sensor 0 ends in a good
read or a miss and the read of sensor 1 begins; its end evaluates the sample, with the clamp reports, one SENSOR report for any change of
health, pair state or mode, and for a settled change one POSTURE report and a re-evaluation of the posture. The time-out is a miss. -/
def Obligations.SamplesAreReadAndEvaluated : Prop :=
  (∀ s : State, s.tracker.sampleTimer.isSome = true →
      exec .sampleTimer s = .next
        { s with
          tracker :=
            { s.tracker with
              sampleTimer := some s.tracker.period
              sample :=
                match s.tracker.sample with
                | .none => .reading0
                | .reading0 => .reading0
                | .reading1 o => .reading1 o } }) ∧
  (∀ (s : State) (acknowledged : Bool) (first second : Byte), s.tracker.sample = .reading0 →
      (exec (.sensorRead acknowledged first second) s = .next (State.conclude
        { s with
          tracker :=
            { s.tracker with
              sample :=
                .reading1
                  (if acknowledged = true ∧ first.getLsbD 7 = true then some (first.toNat % 16 * 256 + second.toNat) else none) } })) ∧
      exec .i2cTimeout s = .next (State.conclude { s with tracker := { s.tracker with sample := .reading1 none } })) ∧
  (∀ (s : State) (o0 : Option Nat) (c : Instr) (o1 : Option Nat), s.tracker.sample = .reading1 o0 →
      ((c = .i2cTimeout ∧ o1 = none) ∨ ∃ k a b, c = .sensorRead k a b ∧ o1 = readOutcome k a b) →
      ∃ t, exec c s = .next t ∧ t.tracker = s.tracker.evaluate s.pins.closedLatch o0 o1 ∧ t.tracker.sample = .none ∧
        (let clamps := clampReports o0 s.tracker.sensor0.offset + clampReports o1 s.tracker.sensor1.offset
         clamps ≠ 0 → t.status.counters.clampedSamples = min 65535 (s.status.counters.clampedSamples + clamps)) ∧
        ((s.tracker.sensor0.good ≠ t.tracker.sensor0.good ∨ s.tracker.sensor1.good ≠ t.tracker.sensor1.good ∨
            s.tracker.pair ≠ t.tracker.pair ∨ s.tracker.mode ≠ t.tracker.mode) → t.flag .sensor = true) ∧
        (s.tracker.settled ≠ t.tracker.settled → t.flag .posture = true) ∧
        t.pins = s.pins ∧ t.front = s.front ∧ t.mem = s.mem ∧
        (let after := s.tracker.evaluate s.pins.closedLatch o0 o1
         let clamps := clampReports o0 s.tracker.sensor0.offset + clampReports o1 s.tracker.sensor1.offset
         let counted : State :=
           { s with
             tracker := after
             status :=
               { s.status with
                 counters :=
                   { s.status.counters with clampedSamples := min 65535 (s.status.counters.clampedSamples + clamps) } } }
         let told : State :=
           if s.tracker.sensor0.good ≠ after.sensor0.good ∨ s.tracker.sensor1.good ≠ after.sensor1.good ∨
               s.tracker.pair ≠ after.pair ∨ s.tracker.mode ≠ after.mode then counted.report .sensor
           else counted
         (s.tracker.settled = after.settled → t = told.conclude) ∧
           (s.tracker.settled ≠ after.settled → t = State.conclude (State.reevaluate (told.report .posture)))))

/-- R121, R122, R125: the conversion of a code with the sensor's offset, limited to 0 to 1800; the health of a sensor by its reads; the
tracker mode from the health of the sensors and the pair state. -/
def Obligations.ReadingsHealthAndMode : Prop :=
  (∀ (code : Nat) (offset : Int), code ≤ 4095 →
      rawAngle code = code * 3600 / 4096 ∧ rawAngle code ≤ 3599 ∧
        (reading code offset : Int) =
          (if (code * 225 / 256 : Nat) + offset < 0 then 0
            else if 1800 < (code * 225 / 256 : Nat) + offset then 1800 else (code * 225 / 256 : Nat) + offset) ∧
        clampReports (some code) offset =
          (if ((code * 225 / 256 : Nat) : Int) + offset < 0 ∨ 1800 < ((code * 225 / 256 : Nat) : Int) + offset then 1 else 0) ∧
        clampReports none offset = 0) ∧
  (∀ (x : Sensor) (outcome : Option Nat), x.sound = true →
      let y := x.update outcome
      y.offset = x.offset ∧
        (outcome.isSome = true →
          y.misses = 0 ∧ y.goods = min 2 (x.goods + 1) ∧ (x.good = true → y.good = true) ∧
            (x.good = false → (y.good = true ↔ y.goods = 2))) ∧
        (outcome = none →
          y.goods = 0 ∧ y.misses = min 3 (x.misses + 1) ∧ (x.good = false → y.good = false) ∧
            (x.good = true → (y.good = false ↔ y.misses = 3)))) ∧
  (∀ t : Tracker,
      (t.sensor0.good = true → t.sensor1.good = true → t.pair = .agree → t.nextMode = .dual) ∧
      (t.sensor0.good ≠ t.sensor1.good → t.pair = .agree → t.nextMode = .single) ∧
      ((t.sensor0.good = true ∨ t.sensor1.good = true) → t.pair = .disagree → t.nextMode = .held) ∧
      (t.sensor0.good = false → t.sensor1.good = false →
        t.nextMode = if t.mode = .acquire then .acquire else .held))

/-- R123: the pair comparison of a compared sample by pair state and agreement; a sample that is not compared leaves the pair state
and both counts. -/
def Obligations.PairComparisonFollowsTheTable : Prop :=
  ∀ (t : Tracker) (r0 r1 : Option Nat),
    let u := t.compareReadings r0 r1
    (∀ a b, r0 = some a → r1 = some b → (a - b) + (b - a) ≤ t.agreementLimit → t.pair = .agree →
      u = { t with disagreeing := 0 }) ∧
    (∀ a b, r0 = some a → r1 = some b → t.agreementLimit < (a - b) + (b - a) → t.pair = .agree →
      u = if t.disagreeing + 1 = 4 then { t with pair := .disagree, disagreeing := 0, agreeing := 0 }
        else { t with disagreeing := t.disagreeing + 1 }) ∧
    (∀ a b, r0 = some a → r1 = some b → t.agreementLimit < (a - b) + (b - a) → t.pair = .disagree →
      u = { t with agreeing := 0 }) ∧
    (∀ a b, r0 = some a → r1 = some b → (a - b) + (b - a) ≤ t.agreementLimit → t.pair = .disagree →
      u = if t.agreeing + 1 = 4 then { t with pair := .agree, disagreeing := 0, agreeing := 0 }
        else { t with agreeing := t.agreeing + 1 }) ∧
    ((r0 = none ∨ r1 = none) → u = t)

/-- R124: the fused angle of a sample from its usable readings and the pair state after the comparison; with one it becomes the last
fused angle, without one the last fused angle stands. The evaluation takes health, pair comparison, fusion, mode and classification in
this order (R119); a good read of a sensor that is then GOOD gives a usable reading, and nothing else does (R122). -/
def Obligations.FusionFollowsTheTable : Prop :=
  ∀ (t : Tracker) (o0 o1 : Option Nat),
    let health : Tracker := { t with sensor0 := t.sensor0.update o0, sensor1 := t.sensor1.update o1 }
    let r0 := health.sensor0.usable o0
    let r1 := health.sensor1.usable o1
    let after := (t.judge o0 o1).1
    let fused := (t.judge o0 o1).2
    let compared := health.compareReadings r0 r1
    let fusedInto : Tracker :=
      { compared with
        lastFused :=
          match fused with
          | some a => some a
          | none => t.lastFused }
    (∀ (x : Sensor) (code : Nat), (x.good = true → x.usable (some code) = some (reading code x.offset)) ∧
      (x.good = false → x.usable (some code) = none) ∧ x.usable none = none) ∧
    after = { fusedInto with mode := fusedInto.nextMode } ∧
    (∀ a b, r0 = some a → r1 = some b → after.pair = .agree →
      fused = if (a - b) + (b - a) ≤ t.agreementLimit then some ((a + b) / 2) else none) ∧
    (after.pair = .disagree → fused = none) ∧
    (∀ a, r0 = some a → r1 = none → after.pair = .agree → fused = some a) ∧
    (∀ b, r0 = none → r1 = some b → after.pair = .agree → fused = some b) ∧
    (r0 = none → r1 = none → fused = none) ∧
    after.lastFused = (match fused with | some a => some a | none => t.lastFused) ∧
    t.evaluate true o0 o1 = { after.settleBy true fused with sample := .none } ∧
    t.evaluate false o0 o1 = { after.settleBy false fused with sample := .none }

/-- R126, R127, R128: the candidate of a fused angle by the latch level, the settled posture and the thresholds; the candidate against
the settled posture and the pending candidate; a sample without a fused angle changes nothing here. -/
def Obligations.CandidatesAndDwell : Prop :=
  (∀ (t : Tracker) (a : Nat),
      t.candidateOf true a = .CLOSED ∧
      ((t.settled = none ∨ t.settled = some .PARTIAL) → t.closedEnter < t.openEnter →
        (a ≤ t.closedEnter → t.candidateOf false a = .CLOSED) ∧
        (t.closedEnter < a → a < t.openEnter → t.candidateOf false a = .PARTIAL) ∧
        (t.openEnter ≤ a → t.candidateOf false a = .OPEN)) ∧
      (t.settled = some .CLOSED → t.closedExit < t.openEnter →
        (a ≤ t.closedExit → t.candidateOf false a = .CLOSED) ∧
        (t.closedExit < a → a < t.openEnter → t.candidateOf false a = .PARTIAL) ∧
        (t.openEnter ≤ a → t.candidateOf false a = .OPEN)) ∧
      (t.settled = some .OPEN → t.closedEnter < t.openExit →
        (t.openExit ≤ a → t.candidateOf false a = .OPEN) ∧
        (t.closedEnter < a → a < t.openExit → t.candidateOf false a = .PARTIAL) ∧
        (a ≤ t.closedEnter → t.candidateOf false a = .CLOSED))) ∧
  (∀ (t : Tracker) (latch : Bool) (a : Nat),
      let p := t.candidateOf latch a
      t.settleBy latch none = t ∧
      (t.settled = some p → t.settleBy latch (some a) = { t with candidate := none }) ∧
      (∀ n, t.settled ≠ some p → t.candidate = some (p, n) →
        t.settleBy latch (some a) =
          if t.dwell ≤ n + 1 then { t with settled := some p, candidate := none } else { t with candidate := some (p, n + 1) }) ∧
      (t.settled ≠ some p → (∀ n, t.candidate ≠ some (p, n)) →
        t.settleBy latch (some a) =
          if t.dwell ≤ 1 then { t with settled := some p, candidate := none } else { t with candidate := some (p, 1) }))

/-- R111, R129, R130: a rising latch edge settles CLOSED and clears the pending candidate, with LATCH, and with POSTURE and a re-evaluation
of the posture where CLOSED was not settled; a falling edge reports LATCH alone and keeps the posture; no other flag moves with it. -/
def Obligations.LatchEdges : Prop :=
  ∀ s : State, s.pins.powerOnReset = false →
    (s.pins.closedLatch = false → ∃ t, exec .latchRise s = .next t ∧ t.pins = { s.pins with closedLatch := true } ∧
      t.tracker = { s.tracker with settled := some .CLOSED, candidate := none } ∧ t.flag .latch = true ∧
      (s.tracker.settled ≠ some .CLOSED → t.flag .posture = true) ∧
      (s.tracker.settled = some .CLOSED → s.swapDue = none → t.planes = s.planes) ∧
      (let closed : State :=
        State.report
          { s with
            pins := { s.pins with closedLatch := true }
            tracker := { s.tracker with settled := some .CLOSED, candidate := none } }
          .latch
       (s.tracker.settled = some .CLOSED → t = closed.conclude) ∧
         (s.tracker.settled ≠ some .CLOSED → t = State.conclude (State.reevaluate (closed.report .posture))))) ∧
    (s.pins.closedLatch = true → ∃ t, exec .latchFall s = .next t ∧ t.pins = { s.pins with closedLatch := false } ∧
      t.tracker = s.tracker ∧ t.flag .latch = true ∧ (s.swapDue = none → t.planes = s.planes) ∧
      (s.swapDue = none → s.waitingInsert = none → ∀ g, g ≠ .latch → t.flag g = s.flag g) ∧
      t = State.conclude (State.report { s with pins := { s.pins with closedLatch := false } } .latch))

/-! ### The fill engine (R137 to R149) -/

/-- R138 to R141, R145, R146: a HOST job taken up starts at its first beat: its first burst covers the row's beats from the rectangle's
leftmost column, at most 16, enables exactly the lanes inside the rectangle, and carries its colour, gained in the band. A
BACKGROUND job whose region holds no pixel completes at its start, with FILL-DONE set and its plane's mark cleared. A job of any kind,
with what its kind reads of the bound layout, starts at the first region beat of its sweep, and the first burst is the run of region
beats there, at most 16; with no region pixel it completes. The sweep goes through the rectangles in their order, each row by row and
beat by beat, and skips the beats with no region pixel. That the job behind one that completes at its start waits for its own row, so that
no burst is in hand then, is the model's choice (log 20). -/
def Obligations.FillJobsStart : Prop :=
  (∀ (s : State) (job : FillJob) (rest : List FillJob) (r : Rect) (colour : Colour), s.fill.jobs = job :: rest →
      job.kind = .host → job.cursor = none → job.rects = [r] → job.holes = [] → job.colour = some colour → 0 < r.width →
      0 < r.height → s.fill.burst = none → s.fillMayWork = true →
      ∃ t b, exec .fillJobStart s = .next t ∧ t.fill.burst = some b ∧
        t.fill.jobs.head? = some { job with cursor := some { rect := 0, row := r.y, beat := r.x / 4 }, beatsWritten := 0 } ∧
        b.addr = planeBase s.fb job.plane + r.y * 9600 + r.x / 4 * 16 ∧
        b.beats.length = min 16 ((r.x + r.width - 1) / 4 - r.x / 4 + 1) ∧
        ∀ n k, n < b.beats.length → k < 4 →
          (b.beats.getD n Collector.emptyBeat).get k =
            (if r.x ≤ 4 * (r.x / 4 + n) + k ∧ 4 * (r.x / 4 + n) + k < r.x + r.width
              then gainLane (s.boundSpine job.plane) (4 * (r.x / 4 + n) + k) (colour.map some)
              else Quad.replicate none)) ∧
  (∀ (s : State) (job : FillJob) (rest : List FillJob) (l : Layout) (v : View), s.fill.jobs = job :: rest →
      job.kind = .background → job.cursor = none → s.boundLayout job.plane = some l → l.views = [v] →
      v.panelRect = { x := 0, y := 0, width := 2400, height := 1800 } →
      s.fill.burst = none → s.fillMayWork = true →
      ∃ t, exec .fillJobStart s = .next t ∧ t.flag .fillDone = true ∧ t.fill.jobs.take rest.length = rest ∧
        (t.planes.entry job.plane).backgroundPending = false ∧ t.fill.burst = none) ∧
  (∀ (s : State) (job read : FillJob) (rest : List FillJob) (colour : Colour), s.fill.jobs = job :: rest → job.cursor = none →
      job.holes = [] →
      ((job.kind = .host ∧ read = job) ∨
        (job.kind = .background ∧ ∃ l, s.boundLayout job.plane = some l ∧
          read =
            { job with
              colour := some l.background
              rects := [{ x := 0, y := 0, width := 2400, height := 1800 }]
              holes := l.views.map View.panelRect }) ∨
        (job.kind = .guard ∧ ∃ l g, s.boundLayout job.plane = some l ∧ l.guard = some g ∧
          read = { job with colour := some g.colour, rects := g.rects })) →
      read.colour = some colour → s.fill.burst = none → s.fillMayWork = true →
      (∀ c r, firstCursor read.holes 0 read.rects = some c → read.rects[c.rect]? = some r →
        ∃ t b, exec .fillJobStart s = .next t ∧ t.fill.burst = some b ∧
          t.fill.jobs.head? = some { read with cursor := some c, beatsWritten := 0 } ∧
          b.addr = planeBase s.fb job.plane + c.row * 9600 + c.beat * 16 ∧
          b.beats.length = runLength r read.holes c.row 16 c.beat ∧
          ∀ n k, n < b.beats.length → k < 4 →
            (b.beats.getD n Collector.emptyBeat).get k =
              (if inRegion r read.holes (4 * (c.beat + n) + k) c.row = true
                then gainLane (s.boundSpine job.plane) (4 * (c.beat + n) + k) (colour.map some)
                else Quad.replicate none)) ∧
      (firstCursor read.holes 0 read.rects = none →
        ∃ t, exec .fillJobStart s = .next t ∧ t.flag .fillDone = true ∧ t.fill.jobs.take rest.length = rest ∧ t.fill.burst = none ∧
          (job.kind = .background → (t.planes.entry job.plane).backgroundPending = false))) ∧
  (∀ (r : Rect) (holes : List Rect) (x y b : Nat),
      (inRegion r holes x y = true ↔
        (r.x ≤ x ∧ x < r.x + r.width ∧ r.y ≤ y ∧ y < r.y + r.height) ∧
          ∀ h ∈ holes, ¬(h.x ≤ x ∧ x < h.x + h.width ∧ h.y ≤ y ∧ y < h.y + h.height)) ∧
      (regionBeat r holes y b = true ↔ ∃ k < 4, inRegion r holes (4 * b + k) y = true) ∧
      (let n := runLength r holes y 16 b
       n ≤ 16 ∧ (∀ j < n, regionBeat r holes y (b + j) = true) ∧ (n < 16 → regionBeat r holes y (b + n) = false))) ∧
  (∀ (rects holes : List Rect),
      (firstCursor holes 0 rects = none ↔ ∀ r ∈ rects, ∀ x y, inRegion r holes x y = false) ∧
      (∀ c, firstCursor holes 0 rects = some c → ∃ r, rects[c.rect]? = some r ∧ regionBeat r holes c.row c.beat = true ∧
        (∀ x y, inRegion r holes x y = true → c.row < y ∨ (c.row = y ∧ c.beat ≤ x / 4)) ∧
        ∀ i q, i < c.rect → rects[i]? = some q → ∀ x y, inRegion q holes x y = false) ∧
      (∀ (c : Cursor) (beat : Nat) (r : Rect), rects[c.rect]? = some r → r.y ≤ c.row →
        let passed := fun x y : Nat => y < c.row ∨ (y = c.row ∧ x / 4 < beat)
        (cursorFrom rects holes c beat = none →
          (∀ x y, inRegion r holes x y = true → passed x y) ∧
            ∀ i q, c.rect < i → rects[i]? = some q → ∀ x y, inRegion q holes x y = false) ∧
        (∀ d, cursorFrom rects holes c beat = some d → ∃ q, rects[d.rect]? = some q ∧ regionBeat q holes d.row d.beat = true ∧
          c.rect ≤ d.rect ∧
          (d.rect = c.rect → (c.row < d.row ∨ (c.row = d.row ∧ beat ≤ d.beat)) ∧
            ∀ x y, inRegion r holes x y = true → passed x y ∨ d.row < y ∨ (d.row = y ∧ d.beat ≤ x / 4)) ∧
          (c.rect < d.rect → (∀ x y, inRegion r holes x y = true → passed x y) ∧
            (∀ i p, c.rect < i → i < d.rect → rects[i]? = some p → ∀ x y, inRegion p holes x y = false) ∧
            ∀ x y, inRegion q holes x y = true → d.row < y ∨ (d.row = y ∧ d.beat ≤ x / 4)))))

/-! ### Control records (R26, R42, R101 to R109, R132 to R134, R145, R161 to R166)

Each is about a record that reaches the decoder (`attends`, `decoderReached`: the model's log 4) and names the rest of its step, which
`EndOfStep` describes, by `conclude` (log 5). `answered` is what recording a result does (R163, R170). -/

/-- R26, R27, R42: the checks of LOAD and UNLOAD in their order. A LOAD that passes begins: busy set, the slot LOADING and remembering
its layout, no result and no record write, and the HEAD fetch waiting for the write placed last of those not yet written, so that every
write placed before the LOAD is in memory first (for a LOAD sent by its row, whose record places no segment, the model's choice, log 4);
an UNLOAD that passes empties the slot. -/
def Obligations.LoadAndUnload : Prop :=
  (∀ s : State,
    (∀ ahead x behind, s.outQueue = ahead ++ x :: behind → x.payload.isWrite = true → (∀ y ∈ behind, y.payload.isWrite = false) →
      s.newestWrite = some x.id) ∧
    ((∀ x ∈ s.outQueue, x.payload.isWrite = false) →
      (∀ f id kind, s.port = some f → f.origin = .path id kind → f.wanted = true → f.payload.isWrite = true →
        s.newestWrite = some id) ∧
      (s.port = none → s.newestWrite = none))) ∧
  ∀ s : State, s.attends = true →
    (∀ slot offset : Word,
      (8 ≤ slot.toNat → exec (.load (~~~1) slot offset) s = .next (s.answered 1 .badSlot).conclude) ∧
      (∀ i : Fin 8, slot.toNat = i.val →
        ((s.planes.a.binding = some i ∨ s.planes.b.binding = some i) →
          exec (.load (~~~1) slot offset) s = .next (s.answered 1 .inUse).conclude) ∧
        (s.planes.a.binding ≠ some i → s.planes.b.binding ≠ some i →
          (¬(offset.toNat % 32 = 0 ∧ 0x200 ≤ offset.toNat ∧ offset.toNat ≤ 0xFFE0) →
            exec (.load (~~~1) slot offset) s = .next (s.answered 1 .chainRange).conclude) ∧
          (offset.toNat % 32 = 0 → 0x200 ≤ offset.toNat → offset.toNat ≤ 0xFFE0 →
            exec (.load (~~~1) slot offset) s = .next (State.conclude
              { s with
                decoder := { s.decoder with taken := s.decoder.taken + 1, lastCommand := 1, busy := true }
                mailboxOutstanding := if s.newestWrite = none then s.mailboxOutstanding else s.newestWrite
                layouts :=
                  { slots := s.layouts.slots.set i (.loading s.layouts.slots[i].layout?)
                    load :=
                      some
                        { slot := i, offset := offset.toNat, kind := .head, fetched := 0, staging := Staging.cleared, phase := .waiting,
                          data := [] } } }))))) ∧
    (∀ slot : Word,
      (8 ≤ slot.toNat → exec (.unload (~~~2) slot) s = .next (s.answered 2 .badSlot).conclude) ∧
      (∀ i : Fin 8, slot.toNat = i.val →
        ((s.planes.a.binding = some i ∨ s.planes.b.binding = some i) →
          exec (.unload (~~~2) slot) s = .next (s.answered 2 .inUse).conclude) ∧
        (s.planes.a.binding ≠ some i → s.planes.b.binding ≠ some i →
          exec (.unload (~~~2) slot) s = .next (State.conclude (State.answered
            { s with layouts := { s.layouts with slots := s.layouts.slots.set i .empty } } 2 .ok)))))

/-- R101, R143: the checks of BIND in their order. A BIND that passes binds the plane, and with the background-fill flag enqueues a
BACKGROUND job on it and sets its mark. -/
def Obligations.BindFollowsItsChecks : Prop :=
  ∀ (s : State) (slot plane flag : Word), s.attends = true →
    (2 ≤ plane.toNat → exec (.bind (~~~3) slot plane flag) s = .next (s.answered 3 .badPlane).conclude) ∧
    (∀ p : Plane, plane.toNat = p.number →
      (8 ≤ slot.toNat → exec (.bind (~~~3) slot plane flag) s = .next (s.answered 3 .badSlot).conclude) ∧
      (∀ i : Fin 8, slot.toNat = i.val →
        exec (.bind (~~~3) slot plane flag) s = .next (State.conclude (
          if s.planes.scanned = p then s.answered 3 .inScan
          else if s.planes.switch ≠ .steady then s.answered 3 .state
          else if (s.planes.entry p).binding ≠ none then s.answered 3 .planeBound
          else if s.layouts.slots[i].isReady = false then s.answered 3 .notReady
          else if (s.planes.entry p.other).binding = some i then s.answered 3 .inUse
          else if flag.getLsbD 0 = true ∧ 4 ≤ s.fill.jobs.length then s.answered 3 .full
          else if flag.getLsbD 0 = true then
            State.answered
              { s with
                planes := s.planes.setEntry p { binding := some i, backgroundPending := true }
                fill := { s.fill with jobs := s.fill.jobs ++ [newJob p .background] } } 3 .ok
          else
            State.answered
              { s with planes := s.planes.setEntry p { s.planes.entry p with binding := some i } } 3 .ok))))

/-- R102, R90, R147: the checks of UNBIND in their order. An UNBIND that passes takes the binding away, and with it every write of the
plane in the collector, every fill job of the plane, and the mark of its BACKGROUND job; the other plane's writes stay. Of the head job
cancelled, a burst offered is withdrawn, and one granted flies on and stays in the engine's hand, where it holds back a pause asked. That
no other job is taken up in the same step is the model's choice (log 20). -/
def Obligations.UnbindFollowsItsChecks : Prop :=
  (∀ (s : State) (plane : Word), s.attends = true →
    (2 ≤ plane.toNat → exec (.unbind (~~~4) plane) s = .next (s.answered 4 .badPlane).conclude) ∧
    (∀ p : Plane, plane.toNat = p.number →
      exec (.unbind (~~~4) plane) s = .next (State.conclude (
        if s.planes.scanned = p then s.answered 4 .inScan
        else if s.planes.switch ≠ .steady then s.answered 4 .state
        else if (s.planes.entry p).binding = none then s.answered 4 .ok
        else (s.unbindPlane p).answered 4 .ok)))) ∧
  (∀ (s : State) (p : Plane),
    let t := s.unbindPlane p
    (t.planes.entry p).binding = none ∧ t.planes.entry p.other = s.planes.entry p.other ∧ t.planes.scanned = s.planes.scanned ∧
      t.planes.select = s.planes.select ∧ t.planes.switch = s.planes.switch ∧
      t.collector.writesOf p = [] ∧ (∀ id, id ∈ t.collector.writesOf p.other ↔ id ∈ s.collector.writesOf p.other) ∧
      t.fill.jobs = s.fill.jobs.filter (fun j => j.plane ≠ p) ∧
      ((∃ j ∈ s.fill.jobs, j.plane = p ∧ j.kind = .background) → (t.planes.entry p).backgroundPending = false) ∧
      (∀ job rest, s.fill.jobs = job :: rest → job.plane = p →
        (∀ b, s.fill.burst = some b → b.granted = false →
          t.fill.burst = none ∧ t.fill.paused = (s.fill.paused || s.fill.pauseAsked) ∧ t.fill.pauseAsked = false) ∧
        (∀ b, s.fill.burst = some b → b.granted = true →
          t.fill.burst = some { b with cancelled := true } ∧ t.fill.paused = s.fill.paused ∧ t.fill.pauseAsked = s.fill.pauseAsked)) ∧
      (∀ job rest, s.fill.jobs = job :: rest → job.plane ≠ p → t.fill.burst = s.fill.burst) ∧
      (s.fill.jobs = [] → t.fill.burst = s.fill.burst) ∧
      t.port = s.port ∧ t.outQueue = s.outQueue ∧ t.mem = s.mem ∧ t.layouts = s.layouts ∧ t.tracker = s.tracker ∧
      t.decoder = s.decoder ∧ t.status = s.status)

/-- R103, R104, R89, R109: COMMIT arms a STEADY switch towards the bound IDLE plane with cause HOST, the limit in force, and the drain
snapshot. Its path part marks the target's straight segments in the output queue and the one in flight. Its collector part is the drain
set: the target's writes in the table, in either queue and in flight; every entry of the target is PRIORITY-WAITING or gone, and the part
waits exactly when the set is not empty. Where no two held writes share a name, as in every run (log 14, the model's, which also names the
commit time), no write is lost or changes its plane. A segment or flush in flight that a reset left to complete for no one (`wanted` false)
is in no snapshot (the model's choice, log 32). CANCEL withdraws an armed swap of either cause before the select line moves. -/
def Obligations.CommitAndCancel : Prop :=
  (∀ s : State, s.attends = true →
    exec (.commit (~~~5)) s = .next (State.conclude (
      if s.planes.switch ≠ .steady then s.answered 5 .state
      else if (s.planes.entry s.planes.idle).binding = none then s.answered 5 .noTarget
      else (s.arm .host).answered 5 .ok)) ∧
    (s.planes.switch = .steady → exec (.cancel (~~~6)) s = .next (s.answered 6 .state).conclude) ∧
    (∀ r, s.planes.switch = .armed r →
      exec (.cancel (~~~6)) s = .next (State.conclude (
        if r.selectMoved then s.answered 6 .state
        else State.answered { s with planes := { s.planes with switch := .steady } } 6 .ok)))) ∧
  (∀ (s : State) (cause : ArmCause), (∀ d ∈ s.collector.drains, d.commit ≠ s.nextId) →
    let target := s.planes.idle
    ∃ r, s.arm cause =
        { s with collector := (s.arm cause).collector, nextId := s.nextId + 1, planes := { s.planes with switch := .armed r } } ∧
      r.cause = cause ∧ r.target = target ∧ r.commit = s.nextId ∧ r.limit = s.planes.swapLimit ∧ r.selectMoved = false ∧
      (let queued := (s.outQueue.filter fun x => decide (x.kind = .straight target)).map (·.id)
       (∀ f id, s.port = some f → f.origin = .path id (.straight target) → f.wanted = true → r.pathWaiting = id :: queued) ∧
         ((∀ f id, s.port = some f → f.origin = .path id (.straight target) → f.wanted = false) → r.pathWaiting = queued)) ∧
      (let awaited := fun id : Nat =>
        (∃ w ∈ s.collector.priority ++ s.collector.ordinary, w.id = id ∧ w.key.plane = target) ∨
          (∃ e ∈ s.collector.table, e.id = id ∧ e.key.plane = target) ∨
          ∃ f key, s.port = some f ∧ f.wanted = true ∧ key.plane = target ∧ (f.origin = .priority id key ∨ f.origin = .ordinary id key)
       (r.collectorWaiting = true ↔ ∃ id, awaited id) ∧
         ((∃ id, awaited id) →
           ∃ d, (s.arm cause).collector.drains = s.collector.drains ++ [d] ∧ d.commit = s.nextId ∧ ∀ id, id ∈ d.unwritten ↔ awaited id) ∧
         ((∀ id, ¬awaited id) → (s.arm cause).collector.drains = s.collector.drains)) ∧
      (∀ e ∈ (s.arm cause).collector.table, e.key.plane = target → e.flush = .priorityWaiting) ∧
      ((s.collector.priority.map (·.id) ++ s.collector.ordinary.map (·.id) ++ s.collector.table.map (·.id)).Nodup →
        ∀ p id, id ∈ (s.arm cause).collector.writesOf p ↔ id ∈ s.collector.writesOf p))

/-- R145: the checks of FILL in their order; a FILL that passes adds a HOST job of its rectangle and colour at the tail. -/
def Obligations.FillFollowsItsChecks : Prop :=
  ∀ (s : State) (plane x y width height colour : Word), s.attends = true →
    (2 ≤ plane.toNat → exec (.fill (~~~7) plane x y width height colour) s = .next (s.answered 7 .badPlane).conclude) ∧
    (∀ p : Plane, plane.toNat = p.number →
      exec (.fill (~~~7) plane x y width height colour) s = .next (State.conclude (
        if (s.planes.entry p).binding = none then s.answered 7 .noLayout
        else if width.toNat = 0 ∨ height.toNat = 0 ∨ 2400 < x.toNat + width.toNat ∨ 1800 < y.toNat + height.toNat then
          s.answered 7 .badValue
        else if 4 ≤ s.fill.jobs.length then s.answered 7 .full
        else
          State.answered
            { s with
              fill :=
                { s.fill with
                  jobs :=
                    s.fill.jobs ++
                      [{ plane := p, kind := .host,
                         rects := [{ x := x.toNat, y := y.toNat, width := width.toNat, height := height.toNat }],
                         holes := [],
                         colour :=
                           some
                             ⟨BitVec.ofNat 8 colour.toNat, BitVec.ofNat 8 (colour.toNat / 256),
                               BitVec.ofNat 8 (colour.toNat / 65536), BitVec.ofNat 8 (colour.toNat / 16777216)⟩,
                         cursor := none, beatsWritten := 0 }] } }
            7 .ok)))

/-- R132, R133, R134: SET-MAP stores three entries, each a slot or NONE, or none of them. SET-TRACKER refused for its thresholds
changes no setting; taken, it stores all of them, each brought into its range, clears the pending candidate and restarts the sample
timer with the new period. -/
def Obligations.TrackerSettingsAreStored : Prop :=
  ∀ s : State, s.attends = true →
    (∀ closed partly opened : Word,
      let valid := fun w : Word => w.toNat < 8 ∨ w.toNat = 15
      (¬(valid closed ∧ valid partly ∧ valid opened) →
        exec (.setMap (~~~8) closed partly opened) s = .next (s.answered 8 .badSlot).conclude) ∧
      (∀ c p o : Option (Fin 8), closed.toNat = mapByte c → partly.toNat = mapByte p → opened.toNat = mapByte o →
        exec (.setMap (~~~8) closed partly opened) s =
          .next (State.conclude (State.answered { s with tracker := { s.tracker with map := ⟨c, p, o⟩ } } 8 .ok)))) ∧
    (∀ ce cx ox oe dwell limit offset0 offset1 period : Word,
      let ordered := ce.toNat < cx.toNat ∧ cx.toNat < ox.toNat ∧ ox.toNat < oe.toNat ∧ oe.toNat ≤ 1800
      let within := (1 ≤ dwell.toNat ∧ dwell.toNat ≤ 64) ∧ (10 ≤ limit.toNat ∧ limit.toNat ≤ 300) ∧
        (-100 ≤ offset0.toInt ∧ offset0.toInt ≤ 100) ∧ (-100 ≤ offset1.toInt ∧ offset1.toInt ≤ 100) ∧
        (1 ≤ period.toNat ∧ period.toNat ≤ 50)
      (¬ordered →
        exec (.setTracker (~~~9) ce cx ox oe dwell limit offset0 offset1 period) s = .next (s.answered 9 .badValue).conclude) ∧
      (ordered →
        let stored : State :=
          { s with
            tracker :=
              { s.tracker with
                closedEnter := ce.toNat
                closedExit := cx.toNat
                openExit := ox.toNat
                openEnter := oe.toNat
                dwell := max 1 (min 64 dwell.toNat)
                agreementLimit := max 10 (min 300 limit.toNat)
                sensor0 := { s.tracker.sensor0 with offset := max (-100) (min 100 offset0.toInt) }
                sensor1 := { s.tracker.sensor1 with offset := max (-100) (min 100 offset1.toInt) }
                period := max 1 (min 50 period.toNat)
                candidate := none
                sampleTimer := some (max 1 (min 50 period.toNat)) } }
        (within →
          exec (.setTracker (~~~9) ce cx ox oe dwell limit offset0 offset1 period) s = .next (stored.answered 9 .ok).conclude) ∧
        (¬within →
          exec (.setTracker (~~~9) ce cx ox oe dwell limit offset0 offset1 period) s =
            .next (stored.answered 9 .clamped).conclude)))

/-- R164, R165, R168: SET-PATH stores its five settings, each number brought into its range; ACK clears the flags its mask names and,
with the flag, the eight counters. SET-PATH restarts the age timer where it runs; that a stopped one stays stopped is the model's
reading (log 30). The attention line is high while an enabled flag is set, outside power-on reset. -/
def Obligations.PathSettingsAndAcknowledgement : Prop :=
  (∀ s : State, s.attends = true →
    (∀ highWater settle age swapLimit mask : Word,
      let within := (8 ≤ highWater.toNat ∧ highWater.toNat ≤ 32) ∧ (1 ≤ settle.toNat ∧ settle.toNat ≤ 255) ∧
        (1 ≤ age.toNat ∧ age.toNat ≤ 50) ∧ (10 ≤ swapLimit.toNat ∧ swapLimit.toNat ≤ 1000)
      let stored : State :=
        { s with
          front :=
            { s.front with
              highWater := max 8 (min 32 highWater.toNat)
              settleSetting := max 1 (min 255 settle.toNat) }
          collector :=
            { s.collector with
              ageInterval := max 1 (min 50 age.toNat)
              ageTimer := if s.collector.ageTimer.isSome then some (max 1 (min 50 age.toNat)) else none }
          planes := { s.planes with swapLimit := max 10 (min 1000 swapLimit.toNat) }
          status := { s.status with mask := mask.setWidth 14 } }
      (within → exec (.setPath (~~~10) highWater settle age swapLimit mask) s = .next (stored.answered 10 .ok).conclude) ∧
      (¬within →
        exec (.setPath (~~~10) highWater settle age swapLimit mask) s = .next (stored.answered 10 .clamped).conclude)) ∧
    (∀ mask clear : Word,
      exec (.ack (~~~11) mask clear) s = .next (State.conclude (State.answered
        { s with
          status :=
            { s.status with
              flags := s.status.flags &&& ~~~(mask.setWidth 14)
              counters := if clear.getLsbD 0 = true then ⟨0, 0, 0, 0, 0, 0, 0, 0⟩ else s.status.counters } } 11 .ok)))) ∧
  (∀ s : State, s.attention = true ↔
    s.pins.powerOnReset = false ∧ ∃ f : EventFlag, s.flag f = true ∧ s.status.mask.getLsbD f.bit = true)

/-- R17, R40, R63, R93, R115, R148, R158, R166: RESET is taken busy or not. Every queue is emptied, each read still to be answered gets
zero beats, a load is aborted, every fill job cancelled with its burst if that is not granted, the burst in flight left to complete for no
one but the status writer and the fill engine's hand, in which a granted burst stays (log 29); decoder, flags and counters start anew;
link state, settings, tracker, frame timing and bindings stay. A swap whose select has moved is done, one whose select has not is
withdrawn; of a swap done the posture is re-evaluated after every block and with flags and counters cleared, and only then the record is
caused (log 23, the model's reading). It is the model's reading too that the engine is PAUSED at once in SLEEP-DRAIN whatever its burst in
hand (log 29), and that the zero beats all go out in this step (log 26). -/
def Obligations.SoftResetStartsTheLinkSideAnew : Prop :=
  ∀ s : State, s.decoderReached = true →
    let zero : DataBeat := Quad.replicate (Quad.replicate 0)
    let unsent := (s.responses.map fun r => r.beats.length - r.sent).sum
    let unread := (s.inbound.map fun r => if r.payload.isWrite then 0 else r.payload.length).sum
    ∃ t, exec (.reset (~~~12)) s = .next t ∧
      t.decoder =
        { busy := false, lastCommand := 12, lastResult := if s.layouts.load.isSome then .aborted else .ok, taken := 0 } ∧
      t.inbound = [] ∧ t.router = none ∧ t.outQueue = [] ∧ t.responses = [] ∧ t.mailboxOutstanding = none ∧ t.translator = .idle ∧
      t.sentUpstream = s.sentUpstream ++ List.replicate (unsent + unread) zero ∧
      t.collector =
        { table := [], ordinary := [], priority := [], asked := [], requests := [], drains := [],
          ageInterval := s.collector.ageInterval, ageTimer := some s.collector.ageInterval } ∧
      t.layouts.load = none ∧
      (∀ i, t.layouts.slots[i] = if s.loadSlot = some i then restoredSlot s.layouts.slots[i] else s.layouts.slots[i]) ∧
      t.fill.burst = (s.fill.burst.bind fun b => if b.granted = true then some { b with cancelled := true } else none) ∧
      t.fill.pauseAsked = false ∧ t.fill.paused = decide (s.front.link = .sleepDrain) ∧
      (∀ p, (t.planes.entry p).backgroundPending = false ∧ (t.planes.entry p).binding = (s.planes.entry p).binding) ∧
      t.status.counters = ⟨0, 0, 0, 0, 0, 0, 0, 0⟩ ∧ t.status.mask = s.status.mask ∧ t.pointer = .path ∧
      (∀ f, s.port = some f →
        t.port = some { f with wanted := f.wanted && (decide (f.origin = .record) || decide (f.origin = .fill)) }) ∧
      (s.port = none → (s.status.write = .quiet ∨ s.status.write = .offered) → ∃ f, t.port = some f ∧ f.origin = .record) ∧
      t.pins = s.pins ∧ t.front = s.front ∧ t.frame = s.frame ∧ t.tracker = s.tracker ∧ t.mem = s.mem ∧
      ((s.planes.switch = .steady ∨ ∃ r, s.planes.switch = .armed r ∧ r.selectMoved = false) →
        t.planes.switch = .steady ∧ t.planes.scanned = s.planes.scanned ∧ t.planes.select = s.planes.select ∧ t.fill.jobs = [] ∧
          t.status.flags = 0) ∧
      (∀ r, s.planes.switch = .armed r → r.selectMoved = true → s.tracker.settled = none →
        t.planes.scanned = r.target ∧ t.planes.select = r.target ∧ t.planes.switch = .steady ∧ t.fill.jobs = [] ∧
          t.status.flags = 0) ∧
      (∀ r, s.planes.switch = .armed r → r.selectMoved = true →
        ∃ u : State, t = State.conclude u.reevaluate.recordCause ∧ u.planes.scanned = r.target ∧ u.planes.select = r.target ∧
          u.planes.switch = .steady ∧ u.planes.swapLimit = s.planes.swapLimit ∧
          (∀ p, u.planes.entry p = { s.planes.entry p with backgroundPending := false }) ∧ u.layouts = t.layouts ∧
          u.tracker = s.tracker ∧ u.frame = s.frame ∧ u.collector = t.collector ∧ u.outQueue = [] ∧ u.fill.jobs = [] ∧
          u.status.flags = 0 ∧ u.status.counters = ⟨0, 0, 0, 0, 0, 0, 0, 0⟩ ∧ u.decoder = t.decoder ∧
          u.port = s.port.map Flight.unwanted)

/-- R161, R162, R163, R9, R174, log 4: a record whose check word is wrong, or that arrives while busy and is no RESET, changes the
rejected-records counter and CMD-REJECTED alone; a record with a command word that is no command is taken with result BAD-COMMAND. A row
whose record does not reach the decoder has no effect: this clause is the model's choice (log 4). The 64 bytes of a mailbox write act at
the decoder as the row of their command word, check word and operand words. -/
def Obligations.RecordsAreJudgedAlike : Prop :=
  ((∀ (c : Instr) (command check : Word) (s : State), c.wf = true → controlWords c = some (command, check) →
      (s.decoderReached = true → (check ≠ ~~~command ∨ (s.decoder.busy = true ∧ command ≠ 12)) →
        exec c s = .next (State.conclude (State.report
          { s with
            status :=
              { s.status with
                counters :=
                  { s.status.counters with rejectedRecords := min 65535 (s.status.counters.rejectedRecords + 1) } } }
          .cmdRejected))) ∧
      (s.decoderReached = false → exec c s = .next s)) ∧
    (∀ (command : Word) (s : State), (command.toNat = 0 ∨ 12 < command.toNat) → s.attends = true →
      exec (.badCommand command (~~~command)) s = .next (s.answered (command.setWidth 8) .badCommand).conclude)) ∧
  (∀ (s : State) (bytes : List Byte), s.decoderReached = true →
      let w := recordWord bytes
      let same := fun c : Instr => exec c s = .next (s.snoop bytes).conclude
      (w 0 = 1 → same (.load (w 1) (w 2) (w 3))) ∧ (w 0 = 2 → same (.unload (w 1) (w 2))) ∧
        (w 0 = 3 → same (.bind (w 1) (w 2) (w 3) (w 4))) ∧ (w 0 = 4 → same (.unbind (w 1) (w 2))) ∧
        (w 0 = 5 → same (.commit (w 1))) ∧ (w 0 = 6 → same (.cancel (w 1))) ∧
        (w 0 = 7 → same (.fill (w 1) (w 2) (w 3) (w 4) (w 5) (w 6) (w 7))) ∧
        (w 0 = 8 → same (.setMap (w 1) (w 2) (w 3) (w 4))) ∧
        (w 0 = 9 → same (.setTracker (w 1) (w 2) (w 3) (w 4) (w 5) (w 6) (w 7) (w 8) (w 9) (w 10))) ∧
        (w 0 = 10 → same (.setPath (w 1) (w 2) (w 3) (w 4) (w 5) (w 6))) ∧ (w 0 = 11 → same (.ack (w 1) (w 2) (w 3))) ∧
        (w 0 = 12 → same (.reset (w 1))) ∧
        ((w 0 = 0 ∨ 12 < (w 0).toNat) → same (.badCommand (w 0) (w 1))))

/-! ### Status writer, gain and translation (R46 to R49, R66 to R70, R167 to R176) -/

/-- R167, R169 to R172: a report sets its flag and no other, and only a flag that was clear causes a record write; a cause, the
completion of a record write and a link reset move the record write state by the table. A counter rises to 65,535 at most. -/
def Obligations.StatusWriterFollowsItsTables : Prop :=
  (∀ (s : State) (f : EventFlag),
    (s.report f).flag f = true ∧ (∀ g, g ≠ f → (s.report f).flag g = s.flag g) ∧ (s.flag f = true → s.report f = s) ∧
      (s.flag f = false → (s.report f).status.write = s.recordCause.status.write) ∧
      (s.report f).status.counters = s.status.counters ∧ (s.report f).status.mask = s.status.mask) ∧
  (∀ s : State,
    let takeable := s.front.link = .awake ∨ s.front.link = .sleepDrain
    let standing := if takeable then RecordWrite.offered else RecordWrite.due
    s.recordCause.status.write =
        (match s.status.write with
         | .quiet => standing
         | .due => .due
         | .offered => .offered
         | .writing => .writingDue
         | .writingDue => .writingDue) ∧
      (s.status.write = .writing → s.recordWritten.status.write = .quiet) ∧
      (s.status.write = .writingDue → s.recordWritten.status.write = standing) ∧
      s.grantRecord.status.write = .writing ∧
      s.grantRecord.port =
        some { origin := .record, addr := s.fb + 0x4000100, payload := .write s.imageBeats, moved := 0, wanted := true }) ∧
  (RecordWrite.quiet.linkReset = .due ∧ RecordWrite.due.linkReset = .due ∧ RecordWrite.offered.linkReset = .due ∧
    RecordWrite.writing.linkReset = .writingDue ∧ RecordWrite.writingDue.linkReset = .writingDue) ∧
  (∀ n k : Nat, n ≤ 65535 → raise n k ≤ 65535 ∧ (n + k ≤ 65535 → raise n k = n + k) ∧ (65535 ≤ n + k → raise n k = 65535))

/-- R176: the image is 128 bytes, each item at its place, and every reserved byte 0; the codes of 11.4 and 11.5. -/
def Obligations.StatusImageFollowsTheLayout : Prop :=
  (∀ s : State, s.SettingsInv → s.Capacities → (∀ i : Fin 8, s.layouts.slots[i].tag < 65536) →
    (∀ job rest, s.fill.jobs = job :: rest → job.beatsWritten < 4294967296) →
    let b := byteAt s.image
    let h := half s.image
    let t := s.tracker
    let c := s.status.counters
    s.image.length = 128 ∧
      (b 0 = s.decoder.lastCommand.toNat ∧ b 1 = s.decoder.lastResult.code ∧ b 2 = (if s.decoder.busy then 1 else 0) ∧
        b 3 = s.front.link.code ∧ h 4 = s.decoder.taken.toNat ∧ h 8 = s.status.flags.toNat ∧ h 10 = s.status.mask.toNat) ∧
      (h 16 = c.orphan ∧ h 18 = c.padding ∧ h 20 = c.saturation ∧ h 22 = c.eviction ∧ h 24 = c.clampedSamples ∧
        h 26 = c.lateSwaps ∧ h 28 = c.abandonedSwaps ∧ h 30 = c.rejectedRecords) ∧
      (b 0x20 = s.front.highWater ∧ b 0x21 = s.front.settleSetting ∧ b 0x22 = s.collector.ageInterval ∧ h 0x24 = s.planes.swapLimit) ∧
      (∀ i : Fin 8, h (0x28 + 4 * i.val) = s.layouts.slots[i].tag ∧ b (0x2A + 4 * i.val) = s.layouts.slots[i].code ∧
        b (0x2B + 4 * i.val) = 0) ∧
      (∀ p : Plane, b (0x48 + 2 * p.number) = bindingByte (s.planes.entry p).binding ∧
        b (0x49 + 2 * p.number) =
          (if s.planes.scanned = p then 1 else 0) + (if (s.planes.entry p).backgroundPending then 2 else 0)) ∧
      b 0x4C = switchByte s.planes.switch ∧
      b 0x4D = (if s.planes.select = .B then 1 else 0) + (if s.frame.scanStopped then 2 else 0) ∧ h 0x4E = s.frame.counter.toNat ∧
      (b 0x50 = (if t.sensor0.good then 1 else 0) + (if t.sensor1.good then 2 else 0) + (if t.pair = .disagree then 4 else 0) +
          (if s.pins.closedLatch then 8 else 0) ∧
        b 0x51 = t.mode.code ∧ b 0x52 = (match t.settled with | some p => p.code | none => 0) ∧
        b 0x53 = (match t.candidate with | some (p, _) => p.code | none => 0) ∧
        b 0x54 = (match t.candidate with | some (_, n) => n | none => 0) ∧ b 0x55 = t.dwell ∧
        h 0x56 = (match t.lastFused with | some a => a | none => 0xFFFF) ∧ h 0x58 = t.closedEnter ∧ h 0x5A = t.closedExit ∧
        h 0x5C = t.openExit ∧ h 0x5E = t.openEnter ∧ h 0x60 = t.agreementLimit ∧
        h 0x62 = (BitVec.ofInt 16 t.sensor0.offset).toNat ∧ h 0x64 = (BitVec.ofInt 16 t.sensor1.offset).toNat ∧ b 0x66 = t.period ∧
        b 0x68 = mapByte t.map.closed ∧ b 0x69 = mapByte t.map.partly ∧ b 0x6A = mapByte t.map.opened) ∧
      (b 0x6C = s.fill.jobs.length ∧ b 0x6D = (if s.fill.paused then 1 else 0) ∧
        (∀ j : Nat, j < 4 → b (0x70 + j) =
          (match s.fill.jobs[j]? with | some x => (if x.plane = .B then 1 else 0) + 2 * x.kind.code | none => 0)) ∧
        long s.image 0x74 = (match s.fill.jobs with | job :: _ => job.beatsWritten | [] => 0)) ∧
      (∀ k ∈ [0x06, 0x07, 0x0C, 0x0D, 0x0E, 0x0F, 0x23, 0x26, 0x27, 0x67, 0x6B, 0x6E, 0x6F, 0x78, 0x79, 0x7A, 0x7B, 0x7C, 0x7D, 0x7E,
        0x7F], b k = 0)) ∧
  ([Result.ok, .clamped, .badCommand, .badSlot, .badPlane, .inUse, .inScan, .notReady, .planeBound, .noTarget, .state, .full, .noLayout,
      .badValue, .chainRange, .chainLong, .badRecord, .badView, .overlap, .badSpine, .badGuard, .aborted].map Result.code =
      [0, 1, 2, 3, 4, 5, 6, 7, 8, 9, 10, 11, 12, 13, 14, 15, 16, 17, 18, 19, 20, 21] ∧
    [EventFlag.powerOn, .loadDone, .swapDone, .swapAbandoned, .swapLate, .posture, .unserved, .sensor, .latch, .fillDone, .guardDropped,
      .cmdRejected, .saturate, .orphan].map EventFlag.bit = [0, 1, 2, 3, 4, 5, 6, 7, 8, 9, 10, 11, 12, 13] ∧
    [LinkState.resetHold, .settle, .awake, .sleepDrain, .asleep].map LinkState.code = [0, 1, 2, 3, 4] ∧
    [TrackerMode.acquire, .dual, .single, .held].map TrackerMode.code = [0, 1, 2, 3] ∧
    [Posture.CLOSED, .PARTIAL, .OPEN].map Posture.code = [1, 2, 3] ∧
    [JobKind.background, .guard, .host].map JobKind.code = [0, 1, 2] ∧ [Plane.A, .B].map Plane.number = [0, 1]) ∧
  (∀ (l : Layout) (remembered : Option Layout),
    Slot.empty.code = 0 ∧ (Slot.loading remembered).code = 1 ∧ (Slot.ready l).code = 2 ∧ Slot.empty.tag = 0 ∧
      (Slot.loading none).tag = 0 ∧ (Slot.loading (some l)).tag = l.tag ∧ (Slot.ready l).tag = l.tag) ∧
  (∀ i : Fin 8, bindingByte (some i) = i.val ∧ bindingByte none = 0xFF ∧ mapByte (some i) = i.val ∧ mapByte none = 15) ∧
  switchByte .steady = 0 ∧
  ∀ r : ArmRecord,
    switchByte (.armed r) =
      1 + (if r.cause = .auto then 2 else 0) + (if r.selectMoved = true then 4 else 0) + (if r.target = .B then 8 else 0)

/-- R66 to R70: the column gain by the knots on both sides of the column, which it never leaves and which gives the same from the
knot above; the bytes of a pixel in the band, and of one outside it, and its saturation reports, one for each enabled channel that
saturates; the effects of a gain on a channel. -/
def Obligations.GainFollowsTheFormula : Prop :=
  (∀ (sp : Spine) (x : Nat), sp.covers x = true → (x - sp.start) / 8 + 1 < sp.knots.length →
    let g : Int := sp.columnGain x
    let low : Int := (sp.knots.getD ((x - sp.start) / 8) 0 : Nat)
    let high : Int := (sp.knots.getD ((x - sp.start) / 8 + 1) 0 : Nat)
    let f : Int := ((x - sp.start) % 8 : Nat)
    g = low + ((high - low) * f + 4) / 8 ∧ g = high + ((low - high) * (8 - f) + 4) / 8 ∧ min low high ≤ g ∧ g ≤ max low high ∧
      (f = 0 → g = low) ∧ (low = high → g = low)) ∧
  (∀ (sp : Spine) (x : Nat) (l : MaskedLane),
    let channel := fun c : Byte => BitVec.ofNat 8 (min 255 ((c.toNat * sp.columnGain x + 8192) / 16384))
    (sp.start ≤ x → x < sp.start + sp.width →
      gainLane (some sp) x l = ⟨l.e0.map channel, l.e1.map channel, l.e2.map channel, l.e3⟩ ∧
        laneReports (some sp) x l =
          ([l.e0, l.e1, l.e2].filter fun b =>
            match b with
            | some c => decide (256 ≤ (c.toNat * sp.columnGain x + 8192) / 16384)
            | none => false).length) ∧
    (¬(sp.start ≤ x ∧ x < sp.start + sp.width) → gainLane (some sp) x l = l ∧ laneReports (some sp) x l = 0) ∧
    gainLane none x l = l ∧ laneReports none x l = 0) ∧
  (∀ (c : Byte) (g : Nat),
    (saturates c g = true ↔ 256 ≤ (c.toNat * g + 8192) / 16384) ∧
    (saturates c g = true → gainedChannel c g = 255) ∧ gainedChannel 0 g = 0 ∧
    (g = 0 → gainedChannel c g = 0) ∧
    (1 ≤ g → g ≤ 16383 → (gainedChannel c g).toNat ≤ c.toNat ∧ saturates c g = false) ∧
    (g = 16384 → gainedChannel c g = c ∧ saturates c g = false) ∧
    (16385 ≤ g → g ≤ 16416 → c.toNat ≤ (gainedChannel c g).toNat ∧ gainedChannel 255 g = 255 ∧ saturates c g = false) ∧
    (16417 ≤ g → saturates 255 g = true))

/-- R46 to R49: the outcome of a lane by the tests in their order; the position of an IN-VIEW lane by mirror and then rotation; a lane
in view lands inside its view's panel rectangle, on the panel, and two lanes of a view land apart. -/
def Obligations.LanesLandOnThePanel : Prop :=
  (∀ o, outcomeOf none o = .noLayout) ∧
  (∀ (l : Layout) (o : Nat), (∀ v ∈ l.views, ¬(v.base ≤ o ∧ o < v.base + v.sv * v.hv)) → outcomeOf (some l) o = .outside) ∧
  (∀ (l : Layout) (v : View) (o : Nat), l.Sound → v ∈ l.views → v.base ≤ o → o < v.base + v.sv * v.hv →
    let e := o - v.base
    (v.wv * 4 ≤ e % v.sv → outcomeOf (some l) o = .padding) ∧
    (e % v.sv < v.wv * 4 →
      outcomeOf (some l) o = .inView v (e % v.sv / 4) (e / v.sv) ∧ e % v.sv / 4 < v.wv ∧ e / v.sv < v.hv)) ∧
  (∀ (v : View) (u row : Nat), v.wellPlaced = true → u < v.wv → row < v.hv →
    let u' := if v.mirror then v.wv - 1 - u else u
    let p := v.panel u row
    (v.rotation = .r0 → p = (v.x0 + u', v.y0 + row)) ∧
    (v.rotation = .r90 → p = (v.x0 + (v.hv - 1 - row), v.y0 + u')) ∧
    (v.rotation = .r180 → p = (v.x0 + (v.wv - 1 - u'), v.y0 + (v.hv - 1 - row))) ∧
    (v.rotation = .r270 → p = (v.x0 + row, v.y0 + (v.wv - 1 - u'))) ∧
    v.panelRect.covers p.1 p.2 = true ∧ p.1 < 2400 ∧ p.2 < 1800 ∧
    (∀ base, panelBeat base p.1 p.2 + 4 * (p.1 % 4) = base + p.2 * 9600 + p.1 * 4 ∧ p.2 * 9600 + p.1 * 4 + 3 ≤ 17279999) ∧
    (∀ u2 row2, u2 < v.wv → row2 < v.hv → v.panel u2 row2 = p → u2 = u ∧ row2 = row))

/-- R50, R53, R54, R55, R70 to R72: the translator counts dropped lanes as it meets them and takes the next row run or turned lane in
hand: a run as the straight segment from its lowest to its highest beat, each lane at its place gained by its own column and every other
lane without an enable; a turned lane as one insert at its physical beat and lane, marked where that beat holds pixels of another view too
(log 31). The saturations of the run or of the turned lane are counted. That drops and saturations are counted in the step in which the
run or lane comes in hand, before any wait, is the model's reading (log 18). -/
def Obligations.LanesComeInHand : Prop :=
  ∀ (s : State) (plane : Plane) (layout : Option Layout) (rest : List LaneStep),
    (s.takeInHand plane layout [] = { s with translator := .idle }) ∧
    (s.takeInHand plane layout (.orphan :: rest) =
      State.takeInHand
        (State.report
          { s with
            status :=
              { s.status with counters := { s.status.counters with orphan := min 65535 (s.status.counters.orphan + 1) } } }
          .orphan)
        plane layout rest) ∧
    (s.takeInHand plane layout (.padding :: rest) =
      State.takeInHand
        { s with
          status :=
            { s.status with counters := { s.status.counters with padding := min 65535 (s.status.counters.padding + 1) } } }
        plane layout rest) ∧
    (∀ (v row y : Nat) (lanes : List PlacedLane), lanes ≠ [] → (∀ p ∈ lanes, p.y = y) → (lanes.map (·.x)).Nodup →
      let t := s.takeInHand plane layout (.run v row lanes :: rest)
      let reports := (lanes.map fun p => laneReports (s.boundSpine plane) p.x p.bytes).sum
      (∃ low beats,
        t.translator =
          .writing
            { plane := plane, layout := layout, todo := rest,
              hand := .segment (planeBase s.fb plane + y * 9600 + low * 16) beats } ∧
        0 < beats.length ∧ (∃ p ∈ lanes, p.x / 4 = low) ∧ (∃ p ∈ lanes, p.x / 4 = low + beats.length - 1) ∧
        (∀ p ∈ lanes, low ≤ p.x / 4 ∧ p.x / 4 < low + beats.length ∧
          (beats.getD (p.x / 4 - low) Collector.emptyBeat).get (p.x % 4) = gainLane (s.boundSpine plane) p.x p.bytes) ∧
        (∀ n k, n < beats.length → k < 4 → (∀ p ∈ lanes, p.x ≠ 4 * (low + n) + k) →
          (beats.getD n Collector.emptyBeat).get k = Quad.replicate none)) ∧
      (reports = 0 → t.status = s.status) ∧
      (0 < reports → t.status.counters.saturation = min 65535 (s.status.counters.saturation + reports) ∧ t.flag .saturate = true)) ∧
    (∀ lane : PlacedLane,
      let t := s.takeInHand plane layout (.turned lane :: rest)
      let reports := laneReports (s.boundSpine plane) lane.x lane.bytes
      (∃ shared : Bool,
        t.translator =
          .writing
            { plane := plane, layout := layout, todo := rest,
              hand := .insert
                { key := { plane := plane, beat := planeBase s.fb plane + lane.y * 9600 + lane.x / 4 * 16 },
                  lane := lane.x % 4, bytes := gainLane (s.boundSpine plane) lane.x lane.bytes, shared := shared }
                false } ∧
        (shared = true ↔
          ∃ l, layout = some l ∧
            2 ≤ (l.views.filter fun v => decide (∃ k < 4, v.panelRect.covers (4 * (lane.x / 4) + k) lane.y = true)).length)) ∧
      (reports = 0 → t.status = s.status) ∧
      (0 < reports → t.status.counters.saturation = min 65535 (s.status.counters.saturation + reports) ∧ t.flag .saturate = true))

/-- R57 to R59, R62: of an aperture read piece, a lane without enables and one not IN-VIEW are answered with zero bytes; each enabled
IN-VIEW lane is tied to a beat of a planned segment that covers its panel position and asks for its enables there. Returned data
fills the lane with its enabled bytes and zeros. -/
def Obligations.ReadPlanServesEveryLane : Prop :=
  (∀ (layout : Option Layout) (base o : Nat) (beats : List EnableBeat), (∀ l, layout = some l → l.Sound) →
    let plan := (readPlan layout base o beats).1
    let assembly := (readPlan layout base o beats).2
    assembly.length = beats.length ∧
      ∀ n k, n < beats.length → k < 4 →
        let lane := (assembly.getD n (Quad.replicate (.filled (Quad.replicate 0)))).get k
        let enables := (beats.getD n (Quad.replicate (Quad.replicate false))).get k
        ((enables = Quad.replicate false ∨ ∀ v u row, outcomeOf layout (o + 16 * n + 4 * k) ≠ .inView v u row) →
          lane = .filled (Quad.replicate 0)) ∧
        (∀ v u row, enables ≠ Quad.replicate false → outcomeOf layout (o + 16 * n + 4 * k) = .inView v u row →
          ∃ (segment : PlanSegment) (b : Nat), plan[segment.index]? = some segment ∧ b < segment.beats.length ∧
            lane = .awaits segment.index b ((v.panel u row).1 % 4) enables ∧
            segment.addr + 16 * b = panelBeat base (v.panel u row).1 (v.panel u row).2 ∧
            (segment.beats.getD b (Quad.replicate (Quad.replicate false))).get ((v.panel u row).1 % 4) = enables)) ∧
  (∀ (segment beat lane : Nat) (enables : Quad Bool) (data : DataBeat),
    (LaneSource.awaits segment beat lane enables).fill segment beat data =
        .filled
          ⟨if enables.e0 then (data.get lane).e0 else 0, if enables.e1 then (data.get lane).e1 else 0,
            if enables.e2 then (data.get lane).e2 else 0, if enables.e3 then (data.get lane).e3 else 0⟩ ∧
      ∀ segment' beat', ¬(segment = segment' ∧ beat = beat') →
        (LaneSource.awaits segment beat lane enables).fill segment' beat' data = .awaits segment beat lane enables)
end

