-- ==== Sys2Proof/Laws/State.lean ====
section
/-! SUPPORT. What each plain update of the state leaves unchanged, and what it sets: one lemma a field, true by definition. -/

namespace Sys2Proof.Machine

@[simp] theorem State.setSlot_pins (s : State) (i : Fin 8) (x : Slot) : (s.setSlot i x).pins = s.pins := rfl
@[simp] theorem State.setSlot_front (s : State) (i : Fin 8) (x : Slot) : (s.setSlot i x).front = s.front := rfl
@[simp] theorem State.setSlot_inbound (s : State) (i : Fin 8) (x : Slot) : (s.setSlot i x).inbound = s.inbound := rfl
@[simp] theorem State.setSlot_router (s : State) (i : Fin 8) (x : Slot) : (s.setSlot i x).router = s.router := rfl
@[simp] theorem State.setSlot_outQueue (s : State) (i : Fin 8) (x : Slot) : (s.setSlot i x).outQueue = s.outQueue := rfl
@[simp] theorem State.setSlot_mailboxOutstanding (s : State) (i : Fin 8) (x : Slot) : (s.setSlot i x).mailboxOutstanding = s.mailboxOutstanding := rfl
@[simp] theorem State.setSlot_responses (s : State) (i : Fin 8) (x : Slot) : (s.setSlot i x).responses = s.responses := rfl
@[simp] theorem State.setSlot_sentUpstream (s : State) (i : Fin 8) (x : Slot) : (s.setSlot i x).sentUpstream = s.sentUpstream := rfl
@[simp] theorem State.setSlot_translator (s : State) (i : Fin 8) (x : Slot) : (s.setSlot i x).translator = s.translator := rfl
@[simp] theorem State.setSlot_collector (s : State) (i : Fin 8) (x : Slot) : (s.setSlot i x).collector = s.collector := rfl
@[simp] theorem State.setSlot_planes (s : State) (i : Fin 8) (x : Slot) : (s.setSlot i x).planes = s.planes := rfl
@[simp] theorem State.setSlot_frame (s : State) (i : Fin 8) (x : Slot) : (s.setSlot i x).frame = s.frame := rfl
@[simp] theorem State.setSlot_tracker (s : State) (i : Fin 8) (x : Slot) : (s.setSlot i x).tracker = s.tracker := rfl
@[simp] theorem State.setSlot_fill (s : State) (i : Fin 8) (x : Slot) : (s.setSlot i x).fill = s.fill := rfl
@[simp] theorem State.setSlot_port (s : State) (i : Fin 8) (x : Slot) : (s.setSlot i x).port = s.port := rfl
@[simp] theorem State.setSlot_pointer (s : State) (i : Fin 8) (x : Slot) : (s.setSlot i x).pointer = s.pointer := rfl
@[simp] theorem State.setSlot_fetchFirst (s : State) (i : Fin 8) (x : Slot) : (s.setSlot i x).fetchFirst = s.fetchFirst := rfl
@[simp] theorem State.setSlot_decoder (s : State) (i : Fin 8) (x : Slot) : (s.setSlot i x).decoder = s.decoder := rfl
@[simp] theorem State.setSlot_status (s : State) (i : Fin 8) (x : Slot) : (s.setSlot i x).status = s.status := rfl
@[simp] theorem State.setSlot_mem (s : State) (i : Fin 8) (x : Slot) : (s.setSlot i x).mem = s.mem := rfl
@[simp] theorem State.setSlot_nextId (s : State) (i : Fin 8) (x : Slot) : (s.setSlot i x).nextId = s.nextId := rfl
@[simp] theorem State.setSlot_freeCount (s : State) (i : Fin 8) (x : Slot) : (s.setSlot i x).freeCount = s.freeCount := rfl
@[simp] theorem State.setSlot_pending (s : State) (i : Fin 8) (x : Slot) : (s.setSlot i x).pending = s.pending := rfl

@[simp] theorem State.setWrite_pins (s : State) (w : RecordWrite) : (s.setWrite w).pins = s.pins := rfl
@[simp] theorem State.setWrite_front (s : State) (w : RecordWrite) : (s.setWrite w).front = s.front := rfl
@[simp] theorem State.setWrite_inbound (s : State) (w : RecordWrite) : (s.setWrite w).inbound = s.inbound := rfl
@[simp] theorem State.setWrite_router (s : State) (w : RecordWrite) : (s.setWrite w).router = s.router := rfl
@[simp] theorem State.setWrite_outQueue (s : State) (w : RecordWrite) : (s.setWrite w).outQueue = s.outQueue := rfl
@[simp] theorem State.setWrite_mailboxOutstanding (s : State) (w : RecordWrite) : (s.setWrite w).mailboxOutstanding = s.mailboxOutstanding := rfl
@[simp] theorem State.setWrite_responses (s : State) (w : RecordWrite) : (s.setWrite w).responses = s.responses := rfl
@[simp] theorem State.setWrite_sentUpstream (s : State) (w : RecordWrite) : (s.setWrite w).sentUpstream = s.sentUpstream := rfl
@[simp] theorem State.setWrite_translator (s : State) (w : RecordWrite) : (s.setWrite w).translator = s.translator := rfl
@[simp] theorem State.setWrite_collector (s : State) (w : RecordWrite) : (s.setWrite w).collector = s.collector := rfl
@[simp] theorem State.setWrite_layouts (s : State) (w : RecordWrite) : (s.setWrite w).layouts = s.layouts := rfl
@[simp] theorem State.setWrite_planes (s : State) (w : RecordWrite) : (s.setWrite w).planes = s.planes := rfl
@[simp] theorem State.setWrite_frame (s : State) (w : RecordWrite) : (s.setWrite w).frame = s.frame := rfl
@[simp] theorem State.setWrite_tracker (s : State) (w : RecordWrite) : (s.setWrite w).tracker = s.tracker := rfl
@[simp] theorem State.setWrite_fill (s : State) (w : RecordWrite) : (s.setWrite w).fill = s.fill := rfl
@[simp] theorem State.setWrite_port (s : State) (w : RecordWrite) : (s.setWrite w).port = s.port := rfl
@[simp] theorem State.setWrite_pointer (s : State) (w : RecordWrite) : (s.setWrite w).pointer = s.pointer := rfl
@[simp] theorem State.setWrite_fetchFirst (s : State) (w : RecordWrite) : (s.setWrite w).fetchFirst = s.fetchFirst := rfl
@[simp] theorem State.setWrite_decoder (s : State) (w : RecordWrite) : (s.setWrite w).decoder = s.decoder := rfl
@[simp] theorem State.setWrite_mem (s : State) (w : RecordWrite) : (s.setWrite w).mem = s.mem := rfl
@[simp] theorem State.setWrite_nextId (s : State) (w : RecordWrite) : (s.setWrite w).nextId = s.nextId := rfl
@[simp] theorem State.setWrite_freeCount (s : State) (w : RecordWrite) : (s.setWrite w).freeCount = s.freeCount := rfl
@[simp] theorem State.setWrite_pending (s : State) (w : RecordWrite) : (s.setWrite w).pending = s.pending := rfl

@[simp] theorem State.count_pins (s : State) (c : Counter) (n : Nat) : (s.count c n).pins = s.pins := rfl
@[simp] theorem State.count_front (s : State) (c : Counter) (n : Nat) : (s.count c n).front = s.front := rfl
@[simp] theorem State.count_inbound (s : State) (c : Counter) (n : Nat) : (s.count c n).inbound = s.inbound := rfl
@[simp] theorem State.count_router (s : State) (c : Counter) (n : Nat) : (s.count c n).router = s.router := rfl
@[simp] theorem State.count_outQueue (s : State) (c : Counter) (n : Nat) : (s.count c n).outQueue = s.outQueue := rfl
@[simp] theorem State.count_mailboxOutstanding (s : State) (c : Counter) (n : Nat) : (s.count c n).mailboxOutstanding = s.mailboxOutstanding := rfl
@[simp] theorem State.count_responses (s : State) (c : Counter) (n : Nat) : (s.count c n).responses = s.responses := rfl
@[simp] theorem State.count_sentUpstream (s : State) (c : Counter) (n : Nat) : (s.count c n).sentUpstream = s.sentUpstream := rfl
@[simp] theorem State.count_translator (s : State) (c : Counter) (n : Nat) : (s.count c n).translator = s.translator := rfl
@[simp] theorem State.count_collector (s : State) (c : Counter) (n : Nat) : (s.count c n).collector = s.collector := rfl
@[simp] theorem State.count_layouts (s : State) (c : Counter) (n : Nat) : (s.count c n).layouts = s.layouts := rfl
@[simp] theorem State.count_planes (s : State) (c : Counter) (n : Nat) : (s.count c n).planes = s.planes := rfl
@[simp] theorem State.count_frame (s : State) (c : Counter) (n : Nat) : (s.count c n).frame = s.frame := rfl
@[simp] theorem State.count_tracker (s : State) (c : Counter) (n : Nat) : (s.count c n).tracker = s.tracker := rfl
@[simp] theorem State.count_fill (s : State) (c : Counter) (n : Nat) : (s.count c n).fill = s.fill := rfl
@[simp] theorem State.count_port (s : State) (c : Counter) (n : Nat) : (s.count c n).port = s.port := rfl
@[simp] theorem State.count_pointer (s : State) (c : Counter) (n : Nat) : (s.count c n).pointer = s.pointer := rfl
@[simp] theorem State.count_fetchFirst (s : State) (c : Counter) (n : Nat) : (s.count c n).fetchFirst = s.fetchFirst := rfl
@[simp] theorem State.count_decoder (s : State) (c : Counter) (n : Nat) : (s.count c n).decoder = s.decoder := rfl
@[simp] theorem State.count_mem (s : State) (c : Counter) (n : Nat) : (s.count c n).mem = s.mem := rfl
@[simp] theorem State.count_nextId (s : State) (c : Counter) (n : Nat) : (s.count c n).nextId = s.nextId := rfl
@[simp] theorem State.count_freeCount (s : State) (c : Counter) (n : Nat) : (s.count c n).freeCount = s.freeCount := rfl
@[simp] theorem State.count_pending (s : State) (c : Counter) (n : Nat) : (s.count c n).pending = s.pending := rfl

@[simp] theorem State.setJobs_pins (s : State) (jobs : List FillJob) : (s.setJobs jobs).pins = s.pins := rfl
@[simp] theorem State.setJobs_front (s : State) (jobs : List FillJob) : (s.setJobs jobs).front = s.front := rfl
@[simp] theorem State.setJobs_inbound (s : State) (jobs : List FillJob) : (s.setJobs jobs).inbound = s.inbound := rfl
@[simp] theorem State.setJobs_router (s : State) (jobs : List FillJob) : (s.setJobs jobs).router = s.router := rfl
@[simp] theorem State.setJobs_outQueue (s : State) (jobs : List FillJob) : (s.setJobs jobs).outQueue = s.outQueue := rfl
@[simp] theorem State.setJobs_mailboxOutstanding (s : State) (jobs : List FillJob) : (s.setJobs jobs).mailboxOutstanding = s.mailboxOutstanding := rfl
@[simp] theorem State.setJobs_responses (s : State) (jobs : List FillJob) : (s.setJobs jobs).responses = s.responses := rfl
@[simp] theorem State.setJobs_sentUpstream (s : State) (jobs : List FillJob) : (s.setJobs jobs).sentUpstream = s.sentUpstream := rfl
@[simp] theorem State.setJobs_translator (s : State) (jobs : List FillJob) : (s.setJobs jobs).translator = s.translator := rfl
@[simp] theorem State.setJobs_collector (s : State) (jobs : List FillJob) : (s.setJobs jobs).collector = s.collector := rfl
@[simp] theorem State.setJobs_layouts (s : State) (jobs : List FillJob) : (s.setJobs jobs).layouts = s.layouts := rfl
@[simp] theorem State.setJobs_planes (s : State) (jobs : List FillJob) : (s.setJobs jobs).planes = s.planes := rfl
@[simp] theorem State.setJobs_frame (s : State) (jobs : List FillJob) : (s.setJobs jobs).frame = s.frame := rfl
@[simp] theorem State.setJobs_tracker (s : State) (jobs : List FillJob) : (s.setJobs jobs).tracker = s.tracker := rfl
@[simp] theorem State.setJobs_port (s : State) (jobs : List FillJob) : (s.setJobs jobs).port = s.port := rfl
@[simp] theorem State.setJobs_pointer (s : State) (jobs : List FillJob) : (s.setJobs jobs).pointer = s.pointer := rfl
@[simp] theorem State.setJobs_fetchFirst (s : State) (jobs : List FillJob) : (s.setJobs jobs).fetchFirst = s.fetchFirst := rfl
@[simp] theorem State.setJobs_decoder (s : State) (jobs : List FillJob) : (s.setJobs jobs).decoder = s.decoder := rfl
@[simp] theorem State.setJobs_status (s : State) (jobs : List FillJob) : (s.setJobs jobs).status = s.status := rfl
@[simp] theorem State.setJobs_mem (s : State) (jobs : List FillJob) : (s.setJobs jobs).mem = s.mem := rfl
@[simp] theorem State.setJobs_nextId (s : State) (jobs : List FillJob) : (s.setJobs jobs).nextId = s.nextId := rfl
@[simp] theorem State.setJobs_freeCount (s : State) (jobs : List FillJob) : (s.setJobs jobs).freeCount = s.freeCount := rfl
@[simp] theorem State.setJobs_pending (s : State) (jobs : List FillJob) : (s.setJobs jobs).pending = s.pending := rfl

@[simp] theorem State.setPending_pins (s : State) (p : Plane) (mark : Bool) : (s.setPending p mark).pins = s.pins := rfl
@[simp] theorem State.setPending_front (s : State) (p : Plane) (mark : Bool) : (s.setPending p mark).front = s.front := rfl
@[simp] theorem State.setPending_inbound (s : State) (p : Plane) (mark : Bool) : (s.setPending p mark).inbound = s.inbound := rfl
@[simp] theorem State.setPending_router (s : State) (p : Plane) (mark : Bool) : (s.setPending p mark).router = s.router := rfl
@[simp] theorem State.setPending_outQueue (s : State) (p : Plane) (mark : Bool) : (s.setPending p mark).outQueue = s.outQueue := rfl
@[simp] theorem State.setPending_mailboxOutstanding (s : State) (p : Plane) (mark : Bool) : (s.setPending p mark).mailboxOutstanding = s.mailboxOutstanding := rfl
@[simp] theorem State.setPending_responses (s : State) (p : Plane) (mark : Bool) : (s.setPending p mark).responses = s.responses := rfl
@[simp] theorem State.setPending_sentUpstream (s : State) (p : Plane) (mark : Bool) : (s.setPending p mark).sentUpstream = s.sentUpstream := rfl
@[simp] theorem State.setPending_translator (s : State) (p : Plane) (mark : Bool) : (s.setPending p mark).translator = s.translator := rfl
@[simp] theorem State.setPending_collector (s : State) (p : Plane) (mark : Bool) : (s.setPending p mark).collector = s.collector := rfl
@[simp] theorem State.setPending_layouts (s : State) (p : Plane) (mark : Bool) : (s.setPending p mark).layouts = s.layouts := rfl
@[simp] theorem State.setPending_frame (s : State) (p : Plane) (mark : Bool) : (s.setPending p mark).frame = s.frame := rfl
@[simp] theorem State.setPending_tracker (s : State) (p : Plane) (mark : Bool) : (s.setPending p mark).tracker = s.tracker := rfl
@[simp] theorem State.setPending_fill (s : State) (p : Plane) (mark : Bool) : (s.setPending p mark).fill = s.fill := rfl
@[simp] theorem State.setPending_port (s : State) (p : Plane) (mark : Bool) : (s.setPending p mark).port = s.port := rfl
@[simp] theorem State.setPending_pointer (s : State) (p : Plane) (mark : Bool) : (s.setPending p mark).pointer = s.pointer := rfl
@[simp] theorem State.setPending_fetchFirst (s : State) (p : Plane) (mark : Bool) : (s.setPending p mark).fetchFirst = s.fetchFirst := rfl
@[simp] theorem State.setPending_decoder (s : State) (p : Plane) (mark : Bool) : (s.setPending p mark).decoder = s.decoder := rfl
@[simp] theorem State.setPending_status (s : State) (p : Plane) (mark : Bool) : (s.setPending p mark).status = s.status := rfl
@[simp] theorem State.setPending_mem (s : State) (p : Plane) (mark : Bool) : (s.setPending p mark).mem = s.mem := rfl
@[simp] theorem State.setPending_nextId (s : State) (p : Plane) (mark : Bool) : (s.setPending p mark).nextId = s.nextId := rfl
@[simp] theorem State.setPending_freeCount (s : State) (p : Plane) (mark : Bool) : (s.setPending p mark).freeCount = s.freeCount := rfl
@[simp] theorem State.setPending_pending (s : State) (p : Plane) (mark : Bool) : (s.setPending p mark).pending = s.pending := rfl

@[simp] theorem State.setBinding_pins (s : State) (p : Plane) (b : Option (Fin 8)) : (s.setBinding p b).pins = s.pins := rfl
@[simp] theorem State.setBinding_front (s : State) (p : Plane) (b : Option (Fin 8)) : (s.setBinding p b).front = s.front := rfl
@[simp] theorem State.setBinding_inbound (s : State) (p : Plane) (b : Option (Fin 8)) : (s.setBinding p b).inbound = s.inbound := rfl
@[simp] theorem State.setBinding_router (s : State) (p : Plane) (b : Option (Fin 8)) : (s.setBinding p b).router = s.router := rfl
@[simp] theorem State.setBinding_outQueue (s : State) (p : Plane) (b : Option (Fin 8)) : (s.setBinding p b).outQueue = s.outQueue := rfl
@[simp] theorem State.setBinding_mailboxOutstanding (s : State) (p : Plane) (b : Option (Fin 8)) : (s.setBinding p b).mailboxOutstanding = s.mailboxOutstanding := rfl
@[simp] theorem State.setBinding_responses (s : State) (p : Plane) (b : Option (Fin 8)) : (s.setBinding p b).responses = s.responses := rfl
@[simp] theorem State.setBinding_sentUpstream (s : State) (p : Plane) (b : Option (Fin 8)) : (s.setBinding p b).sentUpstream = s.sentUpstream := rfl
@[simp] theorem State.setBinding_translator (s : State) (p : Plane) (b : Option (Fin 8)) : (s.setBinding p b).translator = s.translator := rfl
@[simp] theorem State.setBinding_collector (s : State) (p : Plane) (b : Option (Fin 8)) : (s.setBinding p b).collector = s.collector := rfl
@[simp] theorem State.setBinding_layouts (s : State) (p : Plane) (b : Option (Fin 8)) : (s.setBinding p b).layouts = s.layouts := rfl
@[simp] theorem State.setBinding_frame (s : State) (p : Plane) (b : Option (Fin 8)) : (s.setBinding p b).frame = s.frame := rfl
@[simp] theorem State.setBinding_tracker (s : State) (p : Plane) (b : Option (Fin 8)) : (s.setBinding p b).tracker = s.tracker := rfl
@[simp] theorem State.setBinding_fill (s : State) (p : Plane) (b : Option (Fin 8)) : (s.setBinding p b).fill = s.fill := rfl
@[simp] theorem State.setBinding_port (s : State) (p : Plane) (b : Option (Fin 8)) : (s.setBinding p b).port = s.port := rfl
@[simp] theorem State.setBinding_pointer (s : State) (p : Plane) (b : Option (Fin 8)) : (s.setBinding p b).pointer = s.pointer := rfl
@[simp] theorem State.setBinding_fetchFirst (s : State) (p : Plane) (b : Option (Fin 8)) : (s.setBinding p b).fetchFirst = s.fetchFirst := rfl
@[simp] theorem State.setBinding_decoder (s : State) (p : Plane) (b : Option (Fin 8)) : (s.setBinding p b).decoder = s.decoder := rfl
@[simp] theorem State.setBinding_status (s : State) (p : Plane) (b : Option (Fin 8)) : (s.setBinding p b).status = s.status := rfl
@[simp] theorem State.setBinding_mem (s : State) (p : Plane) (b : Option (Fin 8)) : (s.setBinding p b).mem = s.mem := rfl
@[simp] theorem State.setBinding_nextId (s : State) (p : Plane) (b : Option (Fin 8)) : (s.setBinding p b).nextId = s.nextId := rfl
@[simp] theorem State.setBinding_freeCount (s : State) (p : Plane) (b : Option (Fin 8)) : (s.setBinding p b).freeCount = s.freeCount := rfl
@[simp] theorem State.setBinding_pending (s : State) (p : Plane) (b : Option (Fin 8)) : (s.setBinding p b).pending = s.pending := rfl

@[simp] theorem State.setSwitch_pins (s : State) (w : Switch) : (s.setSwitch w).pins = s.pins := rfl
@[simp] theorem State.setSwitch_front (s : State) (w : Switch) : (s.setSwitch w).front = s.front := rfl
@[simp] theorem State.setSwitch_inbound (s : State) (w : Switch) : (s.setSwitch w).inbound = s.inbound := rfl
@[simp] theorem State.setSwitch_router (s : State) (w : Switch) : (s.setSwitch w).router = s.router := rfl
@[simp] theorem State.setSwitch_outQueue (s : State) (w : Switch) : (s.setSwitch w).outQueue = s.outQueue := rfl
@[simp] theorem State.setSwitch_mailboxOutstanding (s : State) (w : Switch) : (s.setSwitch w).mailboxOutstanding = s.mailboxOutstanding := rfl
@[simp] theorem State.setSwitch_responses (s : State) (w : Switch) : (s.setSwitch w).responses = s.responses := rfl
@[simp] theorem State.setSwitch_sentUpstream (s : State) (w : Switch) : (s.setSwitch w).sentUpstream = s.sentUpstream := rfl
@[simp] theorem State.setSwitch_translator (s : State) (w : Switch) : (s.setSwitch w).translator = s.translator := rfl
@[simp] theorem State.setSwitch_collector (s : State) (w : Switch) : (s.setSwitch w).collector = s.collector := rfl
@[simp] theorem State.setSwitch_layouts (s : State) (w : Switch) : (s.setSwitch w).layouts = s.layouts := rfl
@[simp] theorem State.setSwitch_frame (s : State) (w : Switch) : (s.setSwitch w).frame = s.frame := rfl
@[simp] theorem State.setSwitch_tracker (s : State) (w : Switch) : (s.setSwitch w).tracker = s.tracker := rfl
@[simp] theorem State.setSwitch_fill (s : State) (w : Switch) : (s.setSwitch w).fill = s.fill := rfl
@[simp] theorem State.setSwitch_port (s : State) (w : Switch) : (s.setSwitch w).port = s.port := rfl
@[simp] theorem State.setSwitch_pointer (s : State) (w : Switch) : (s.setSwitch w).pointer = s.pointer := rfl
@[simp] theorem State.setSwitch_fetchFirst (s : State) (w : Switch) : (s.setSwitch w).fetchFirst = s.fetchFirst := rfl
@[simp] theorem State.setSwitch_decoder (s : State) (w : Switch) : (s.setSwitch w).decoder = s.decoder := rfl
@[simp] theorem State.setSwitch_status (s : State) (w : Switch) : (s.setSwitch w).status = s.status := rfl
@[simp] theorem State.setSwitch_mem (s : State) (w : Switch) : (s.setSwitch w).mem = s.mem := rfl
@[simp] theorem State.setSwitch_nextId (s : State) (w : Switch) : (s.setSwitch w).nextId = s.nextId := rfl
@[simp] theorem State.setSwitch_freeCount (s : State) (w : Switch) : (s.setSwitch w).freeCount = s.freeCount := rfl
@[simp] theorem State.setSwitch_pending (s : State) (w : Switch) : (s.setSwitch w).pending = s.pending := rfl

@[simp] theorem State.moveSelect_pins (s : State) (r : ArmRecord) : (s.moveSelect r).pins = s.pins := rfl
@[simp] theorem State.moveSelect_front (s : State) (r : ArmRecord) : (s.moveSelect r).front = s.front := rfl
@[simp] theorem State.moveSelect_inbound (s : State) (r : ArmRecord) : (s.moveSelect r).inbound = s.inbound := rfl
@[simp] theorem State.moveSelect_router (s : State) (r : ArmRecord) : (s.moveSelect r).router = s.router := rfl
@[simp] theorem State.moveSelect_outQueue (s : State) (r : ArmRecord) : (s.moveSelect r).outQueue = s.outQueue := rfl
@[simp] theorem State.moveSelect_mailboxOutstanding (s : State) (r : ArmRecord) : (s.moveSelect r).mailboxOutstanding = s.mailboxOutstanding := rfl
@[simp] theorem State.moveSelect_responses (s : State) (r : ArmRecord) : (s.moveSelect r).responses = s.responses := rfl
@[simp] theorem State.moveSelect_sentUpstream (s : State) (r : ArmRecord) : (s.moveSelect r).sentUpstream = s.sentUpstream := rfl
@[simp] theorem State.moveSelect_translator (s : State) (r : ArmRecord) : (s.moveSelect r).translator = s.translator := rfl
@[simp] theorem State.moveSelect_collector (s : State) (r : ArmRecord) : (s.moveSelect r).collector = s.collector := rfl
@[simp] theorem State.moveSelect_layouts (s : State) (r : ArmRecord) : (s.moveSelect r).layouts = s.layouts := rfl
@[simp] theorem State.moveSelect_frame (s : State) (r : ArmRecord) : (s.moveSelect r).frame = s.frame := rfl
@[simp] theorem State.moveSelect_tracker (s : State) (r : ArmRecord) : (s.moveSelect r).tracker = s.tracker := rfl
@[simp] theorem State.moveSelect_fill (s : State) (r : ArmRecord) : (s.moveSelect r).fill = s.fill := rfl
@[simp] theorem State.moveSelect_port (s : State) (r : ArmRecord) : (s.moveSelect r).port = s.port := rfl
@[simp] theorem State.moveSelect_pointer (s : State) (r : ArmRecord) : (s.moveSelect r).pointer = s.pointer := rfl
@[simp] theorem State.moveSelect_fetchFirst (s : State) (r : ArmRecord) : (s.moveSelect r).fetchFirst = s.fetchFirst := rfl
@[simp] theorem State.moveSelect_decoder (s : State) (r : ArmRecord) : (s.moveSelect r).decoder = s.decoder := rfl
@[simp] theorem State.moveSelect_status (s : State) (r : ArmRecord) : (s.moveSelect r).status = s.status := rfl
@[simp] theorem State.moveSelect_mem (s : State) (r : ArmRecord) : (s.moveSelect r).mem = s.mem := rfl
@[simp] theorem State.moveSelect_nextId (s : State) (r : ArmRecord) : (s.moveSelect r).nextId = s.nextId := rfl
@[simp] theorem State.moveSelect_freeCount (s : State) (r : ArmRecord) : (s.moveSelect r).freeCount = s.freeCount := rfl
@[simp] theorem State.moveSelect_pending (s : State) (r : ArmRecord) : (s.moveSelect r).pending = s.pending := rfl

@[simp] theorem State.setLink_pins (s : State) (l : LinkState) : (s.setLink l).pins = s.pins := rfl
@[simp] theorem State.setLink_inbound (s : State) (l : LinkState) : (s.setLink l).inbound = s.inbound := rfl
@[simp] theorem State.setLink_router (s : State) (l : LinkState) : (s.setLink l).router = s.router := rfl
@[simp] theorem State.setLink_outQueue (s : State) (l : LinkState) : (s.setLink l).outQueue = s.outQueue := rfl
@[simp] theorem State.setLink_mailboxOutstanding (s : State) (l : LinkState) : (s.setLink l).mailboxOutstanding = s.mailboxOutstanding := rfl
@[simp] theorem State.setLink_responses (s : State) (l : LinkState) : (s.setLink l).responses = s.responses := rfl
@[simp] theorem State.setLink_sentUpstream (s : State) (l : LinkState) : (s.setLink l).sentUpstream = s.sentUpstream := rfl
@[simp] theorem State.setLink_translator (s : State) (l : LinkState) : (s.setLink l).translator = s.translator := rfl
@[simp] theorem State.setLink_collector (s : State) (l : LinkState) : (s.setLink l).collector = s.collector := rfl
@[simp] theorem State.setLink_layouts (s : State) (l : LinkState) : (s.setLink l).layouts = s.layouts := rfl
@[simp] theorem State.setLink_planes (s : State) (l : LinkState) : (s.setLink l).planes = s.planes := rfl
@[simp] theorem State.setLink_frame (s : State) (l : LinkState) : (s.setLink l).frame = s.frame := rfl
@[simp] theorem State.setLink_tracker (s : State) (l : LinkState) : (s.setLink l).tracker = s.tracker := rfl
@[simp] theorem State.setLink_fill (s : State) (l : LinkState) : (s.setLink l).fill = s.fill := rfl
@[simp] theorem State.setLink_port (s : State) (l : LinkState) : (s.setLink l).port = s.port := rfl
@[simp] theorem State.setLink_pointer (s : State) (l : LinkState) : (s.setLink l).pointer = s.pointer := rfl
@[simp] theorem State.setLink_fetchFirst (s : State) (l : LinkState) : (s.setLink l).fetchFirst = s.fetchFirst := rfl
@[simp] theorem State.setLink_decoder (s : State) (l : LinkState) : (s.setLink l).decoder = s.decoder := rfl
@[simp] theorem State.setLink_status (s : State) (l : LinkState) : (s.setLink l).status = s.status := rfl
@[simp] theorem State.setLink_mem (s : State) (l : LinkState) : (s.setLink l).mem = s.mem := rfl
@[simp] theorem State.setLink_nextId (s : State) (l : LinkState) : (s.setLink l).nextId = s.nextId := rfl
@[simp] theorem State.setLink_freeCount (s : State) (l : LinkState) : (s.setLink l).freeCount = s.freeCount := rfl
@[simp] theorem State.setLink_pending (s : State) (l : LinkState) : (s.setLink l).pending = s.pending := rfl

@[simp] theorem State.enterSettle_pins (s : State) : (s.enterSettle).pins = s.pins := rfl
@[simp] theorem State.enterSettle_inbound (s : State) : (s.enterSettle).inbound = s.inbound := rfl
@[simp] theorem State.enterSettle_router (s : State) : (s.enterSettle).router = s.router := rfl
@[simp] theorem State.enterSettle_outQueue (s : State) : (s.enterSettle).outQueue = s.outQueue := rfl
@[simp] theorem State.enterSettle_mailboxOutstanding (s : State) : (s.enterSettle).mailboxOutstanding = s.mailboxOutstanding := rfl
@[simp] theorem State.enterSettle_responses (s : State) : (s.enterSettle).responses = s.responses := rfl
@[simp] theorem State.enterSettle_sentUpstream (s : State) : (s.enterSettle).sentUpstream = s.sentUpstream := rfl
@[simp] theorem State.enterSettle_translator (s : State) : (s.enterSettle).translator = s.translator := rfl
@[simp] theorem State.enterSettle_collector (s : State) : (s.enterSettle).collector = s.collector := rfl
@[simp] theorem State.enterSettle_layouts (s : State) : (s.enterSettle).layouts = s.layouts := rfl
@[simp] theorem State.enterSettle_planes (s : State) : (s.enterSettle).planes = s.planes := rfl
@[simp] theorem State.enterSettle_frame (s : State) : (s.enterSettle).frame = s.frame := rfl
@[simp] theorem State.enterSettle_tracker (s : State) : (s.enterSettle).tracker = s.tracker := rfl
@[simp] theorem State.enterSettle_fill (s : State) : (s.enterSettle).fill = s.fill := rfl
@[simp] theorem State.enterSettle_port (s : State) : (s.enterSettle).port = s.port := rfl
@[simp] theorem State.enterSettle_pointer (s : State) : (s.enterSettle).pointer = s.pointer := rfl
@[simp] theorem State.enterSettle_fetchFirst (s : State) : (s.enterSettle).fetchFirst = s.fetchFirst := rfl
@[simp] theorem State.enterSettle_decoder (s : State) : (s.enterSettle).decoder = s.decoder := rfl
@[simp] theorem State.enterSettle_status (s : State) : (s.enterSettle).status = s.status := rfl
@[simp] theorem State.enterSettle_mem (s : State) : (s.enterSettle).mem = s.mem := rfl
@[simp] theorem State.enterSettle_nextId (s : State) : (s.enterSettle).nextId = s.nextId := rfl
@[simp] theorem State.enterSettle_freeCount (s : State) : (s.enterSettle).freeCount = s.freeCount := rfl
@[simp] theorem State.enterSettle_pending (s : State) : (s.enterSettle).pending = s.pending := rfl

@[simp] theorem State.tickFree_pins (s : State) : (s.tickFree).pins = s.pins := rfl
@[simp] theorem State.tickFree_front (s : State) : (s.tickFree).front = s.front := rfl
@[simp] theorem State.tickFree_inbound (s : State) : (s.tickFree).inbound = s.inbound := rfl
@[simp] theorem State.tickFree_router (s : State) : (s.tickFree).router = s.router := rfl
@[simp] theorem State.tickFree_outQueue (s : State) : (s.tickFree).outQueue = s.outQueue := rfl
@[simp] theorem State.tickFree_mailboxOutstanding (s : State) : (s.tickFree).mailboxOutstanding = s.mailboxOutstanding := rfl
@[simp] theorem State.tickFree_responses (s : State) : (s.tickFree).responses = s.responses := rfl
@[simp] theorem State.tickFree_sentUpstream (s : State) : (s.tickFree).sentUpstream = s.sentUpstream := rfl
@[simp] theorem State.tickFree_translator (s : State) : (s.tickFree).translator = s.translator := rfl
@[simp] theorem State.tickFree_collector (s : State) : (s.tickFree).collector = s.collector := rfl
@[simp] theorem State.tickFree_layouts (s : State) : (s.tickFree).layouts = s.layouts := rfl
@[simp] theorem State.tickFree_planes (s : State) : (s.tickFree).planes = s.planes := rfl
@[simp] theorem State.tickFree_frame (s : State) : (s.tickFree).frame = s.frame := rfl
@[simp] theorem State.tickFree_tracker (s : State) : (s.tickFree).tracker = s.tracker := rfl
@[simp] theorem State.tickFree_fill (s : State) : (s.tickFree).fill = s.fill := rfl
@[simp] theorem State.tickFree_port (s : State) : (s.tickFree).port = s.port := rfl
@[simp] theorem State.tickFree_pointer (s : State) : (s.tickFree).pointer = s.pointer := rfl
@[simp] theorem State.tickFree_fetchFirst (s : State) : (s.tickFree).fetchFirst = s.fetchFirst := rfl
@[simp] theorem State.tickFree_decoder (s : State) : (s.tickFree).decoder = s.decoder := rfl
@[simp] theorem State.tickFree_status (s : State) : (s.tickFree).status = s.status := rfl
@[simp] theorem State.tickFree_mem (s : State) : (s.tickFree).mem = s.mem := rfl
@[simp] theorem State.tickFree_nextId (s : State) : (s.tickFree).nextId = s.nextId := rfl
@[simp] theorem State.tickFree_pending (s : State) : (s.tickFree).pending = s.pending := rfl

@[simp] theorem State.fly_pins (s : State) (o : Origin) (a : Nat) (q : Payload) : (s.fly o a q).pins = s.pins := rfl
@[simp] theorem State.fly_front (s : State) (o : Origin) (a : Nat) (q : Payload) : (s.fly o a q).front = s.front := rfl
@[simp] theorem State.fly_inbound (s : State) (o : Origin) (a : Nat) (q : Payload) : (s.fly o a q).inbound = s.inbound := rfl
@[simp] theorem State.fly_router (s : State) (o : Origin) (a : Nat) (q : Payload) : (s.fly o a q).router = s.router := rfl
@[simp] theorem State.fly_outQueue (s : State) (o : Origin) (a : Nat) (q : Payload) : (s.fly o a q).outQueue = s.outQueue := rfl
@[simp] theorem State.fly_mailboxOutstanding (s : State) (o : Origin) (a : Nat) (q : Payload) : (s.fly o a q).mailboxOutstanding = s.mailboxOutstanding := rfl
@[simp] theorem State.fly_responses (s : State) (o : Origin) (a : Nat) (q : Payload) : (s.fly o a q).responses = s.responses := rfl
@[simp] theorem State.fly_sentUpstream (s : State) (o : Origin) (a : Nat) (q : Payload) : (s.fly o a q).sentUpstream = s.sentUpstream := rfl
@[simp] theorem State.fly_translator (s : State) (o : Origin) (a : Nat) (q : Payload) : (s.fly o a q).translator = s.translator := rfl
@[simp] theorem State.fly_collector (s : State) (o : Origin) (a : Nat) (q : Payload) : (s.fly o a q).collector = s.collector := rfl
@[simp] theorem State.fly_layouts (s : State) (o : Origin) (a : Nat) (q : Payload) : (s.fly o a q).layouts = s.layouts := rfl
@[simp] theorem State.fly_planes (s : State) (o : Origin) (a : Nat) (q : Payload) : (s.fly o a q).planes = s.planes := rfl
@[simp] theorem State.fly_frame (s : State) (o : Origin) (a : Nat) (q : Payload) : (s.fly o a q).frame = s.frame := rfl
@[simp] theorem State.fly_tracker (s : State) (o : Origin) (a : Nat) (q : Payload) : (s.fly o a q).tracker = s.tracker := rfl
@[simp] theorem State.fly_fill (s : State) (o : Origin) (a : Nat) (q : Payload) : (s.fly o a q).fill = s.fill := rfl
@[simp] theorem State.fly_pointer (s : State) (o : Origin) (a : Nat) (q : Payload) : (s.fly o a q).pointer = s.pointer := rfl
@[simp] theorem State.fly_fetchFirst (s : State) (o : Origin) (a : Nat) (q : Payload) : (s.fly o a q).fetchFirst = s.fetchFirst := rfl
@[simp] theorem State.fly_decoder (s : State) (o : Origin) (a : Nat) (q : Payload) : (s.fly o a q).decoder = s.decoder := rfl
@[simp] theorem State.fly_status (s : State) (o : Origin) (a : Nat) (q : Payload) : (s.fly o a q).status = s.status := rfl
@[simp] theorem State.fly_mem (s : State) (o : Origin) (a : Nat) (q : Payload) : (s.fly o a q).mem = s.mem := rfl
@[simp] theorem State.fly_nextId (s : State) (o : Origin) (a : Nat) (q : Payload) : (s.fly o a q).nextId = s.nextId := rfl
@[simp] theorem State.fly_freeCount (s : State) (o : Origin) (a : Nat) (q : Payload) : (s.fly o a q).freeCount = s.freeCount := rfl
@[simp] theorem State.fly_pending (s : State) (o : Origin) (a : Nat) (q : Payload) : (s.fly o a q).pending = s.pending := rfl

@[simp] theorem State.placeSegment_pins (s : State) (k : SegmentKind) (a : Nat) (q : Payload) : (s.placeSegment k a q).pins = s.pins := rfl
@[simp] theorem State.placeSegment_front (s : State) (k : SegmentKind) (a : Nat) (q : Payload) : (s.placeSegment k a q).front = s.front := rfl
@[simp] theorem State.placeSegment_inbound (s : State) (k : SegmentKind) (a : Nat) (q : Payload) : (s.placeSegment k a q).inbound = s.inbound := rfl
@[simp] theorem State.placeSegment_router (s : State) (k : SegmentKind) (a : Nat) (q : Payload) : (s.placeSegment k a q).router = s.router := rfl
@[simp] theorem State.placeSegment_mailboxOutstanding (s : State) (k : SegmentKind) (a : Nat) (q : Payload) : (s.placeSegment k a q).mailboxOutstanding = s.mailboxOutstanding := rfl
@[simp] theorem State.placeSegment_responses (s : State) (k : SegmentKind) (a : Nat) (q : Payload) : (s.placeSegment k a q).responses = s.responses := rfl
@[simp] theorem State.placeSegment_sentUpstream (s : State) (k : SegmentKind) (a : Nat) (q : Payload) : (s.placeSegment k a q).sentUpstream = s.sentUpstream := rfl
@[simp] theorem State.placeSegment_translator (s : State) (k : SegmentKind) (a : Nat) (q : Payload) : (s.placeSegment k a q).translator = s.translator := rfl
@[simp] theorem State.placeSegment_collector (s : State) (k : SegmentKind) (a : Nat) (q : Payload) : (s.placeSegment k a q).collector = s.collector := rfl
@[simp] theorem State.placeSegment_layouts (s : State) (k : SegmentKind) (a : Nat) (q : Payload) : (s.placeSegment k a q).layouts = s.layouts := rfl
@[simp] theorem State.placeSegment_planes (s : State) (k : SegmentKind) (a : Nat) (q : Payload) : (s.placeSegment k a q).planes = s.planes := rfl
@[simp] theorem State.placeSegment_frame (s : State) (k : SegmentKind) (a : Nat) (q : Payload) : (s.placeSegment k a q).frame = s.frame := rfl
@[simp] theorem State.placeSegment_tracker (s : State) (k : SegmentKind) (a : Nat) (q : Payload) : (s.placeSegment k a q).tracker = s.tracker := rfl
@[simp] theorem State.placeSegment_fill (s : State) (k : SegmentKind) (a : Nat) (q : Payload) : (s.placeSegment k a q).fill = s.fill := rfl
@[simp] theorem State.placeSegment_port (s : State) (k : SegmentKind) (a : Nat) (q : Payload) : (s.placeSegment k a q).port = s.port := rfl
@[simp] theorem State.placeSegment_pointer (s : State) (k : SegmentKind) (a : Nat) (q : Payload) : (s.placeSegment k a q).pointer = s.pointer := rfl
@[simp] theorem State.placeSegment_fetchFirst (s : State) (k : SegmentKind) (a : Nat) (q : Payload) : (s.placeSegment k a q).fetchFirst = s.fetchFirst := rfl
@[simp] theorem State.placeSegment_decoder (s : State) (k : SegmentKind) (a : Nat) (q : Payload) : (s.placeSegment k a q).decoder = s.decoder := rfl
@[simp] theorem State.placeSegment_status (s : State) (k : SegmentKind) (a : Nat) (q : Payload) : (s.placeSegment k a q).status = s.status := rfl
@[simp] theorem State.placeSegment_mem (s : State) (k : SegmentKind) (a : Nat) (q : Payload) : (s.placeSegment k a q).mem = s.mem := rfl
@[simp] theorem State.placeSegment_freeCount (s : State) (k : SegmentKind) (a : Nat) (q : Payload) : (s.placeSegment k a q).freeCount = s.freeCount := rfl
@[simp] theorem State.placeSegment_pending (s : State) (k : SegmentKind) (a : Nat) (q : Payload) : (s.placeSegment k a q).pending = s.pending := rfl

@[simp] theorem State.emptyPath_pins (s : State) : (s.emptyPath).pins = s.pins := rfl
@[simp] theorem State.emptyPath_front (s : State) : (s.emptyPath).front = s.front := rfl
@[simp] theorem State.emptyPath_sentUpstream (s : State) : (s.emptyPath).sentUpstream = s.sentUpstream := rfl
@[simp] theorem State.emptyPath_collector (s : State) : (s.emptyPath).collector = s.collector := rfl
@[simp] theorem State.emptyPath_layouts (s : State) : (s.emptyPath).layouts = s.layouts := rfl
@[simp] theorem State.emptyPath_planes (s : State) : (s.emptyPath).planes = s.planes := rfl
@[simp] theorem State.emptyPath_frame (s : State) : (s.emptyPath).frame = s.frame := rfl
@[simp] theorem State.emptyPath_tracker (s : State) : (s.emptyPath).tracker = s.tracker := rfl
@[simp] theorem State.emptyPath_fill (s : State) : (s.emptyPath).fill = s.fill := rfl
@[simp] theorem State.emptyPath_port (s : State) : (s.emptyPath).port = s.port := rfl
@[simp] theorem State.emptyPath_pointer (s : State) : (s.emptyPath).pointer = s.pointer := rfl
@[simp] theorem State.emptyPath_fetchFirst (s : State) : (s.emptyPath).fetchFirst = s.fetchFirst := rfl
@[simp] theorem State.emptyPath_decoder (s : State) : (s.emptyPath).decoder = s.decoder := rfl
@[simp] theorem State.emptyPath_status (s : State) : (s.emptyPath).status = s.status := rfl
@[simp] theorem State.emptyPath_mem (s : State) : (s.emptyPath).mem = s.mem := rfl
@[simp] theorem State.emptyPath_nextId (s : State) : (s.emptyPath).nextId = s.nextId := rfl
@[simp] theorem State.emptyPath_freeCount (s : State) : (s.emptyPath).freeCount = s.freeCount := rfl
@[simp] theorem State.emptyPath_pending (s : State) : (s.emptyPath).pending = s.pending := rfl

@[simp] theorem State.disownFlight_pins (s : State) : (s.disownFlight).pins = s.pins := rfl
@[simp] theorem State.disownFlight_front (s : State) : (s.disownFlight).front = s.front := rfl
@[simp] theorem State.disownFlight_inbound (s : State) : (s.disownFlight).inbound = s.inbound := rfl
@[simp] theorem State.disownFlight_router (s : State) : (s.disownFlight).router = s.router := rfl
@[simp] theorem State.disownFlight_outQueue (s : State) : (s.disownFlight).outQueue = s.outQueue := rfl
@[simp] theorem State.disownFlight_mailboxOutstanding (s : State) : (s.disownFlight).mailboxOutstanding = s.mailboxOutstanding := rfl
@[simp] theorem State.disownFlight_responses (s : State) : (s.disownFlight).responses = s.responses := rfl
@[simp] theorem State.disownFlight_sentUpstream (s : State) : (s.disownFlight).sentUpstream = s.sentUpstream := rfl
@[simp] theorem State.disownFlight_translator (s : State) : (s.disownFlight).translator = s.translator := rfl
@[simp] theorem State.disownFlight_collector (s : State) : (s.disownFlight).collector = s.collector := rfl
@[simp] theorem State.disownFlight_layouts (s : State) : (s.disownFlight).layouts = s.layouts := rfl
@[simp] theorem State.disownFlight_planes (s : State) : (s.disownFlight).planes = s.planes := rfl
@[simp] theorem State.disownFlight_frame (s : State) : (s.disownFlight).frame = s.frame := rfl
@[simp] theorem State.disownFlight_tracker (s : State) : (s.disownFlight).tracker = s.tracker := rfl
@[simp] theorem State.disownFlight_fill (s : State) : (s.disownFlight).fill = s.fill := rfl
@[simp] theorem State.disownFlight_pointer (s : State) : (s.disownFlight).pointer = s.pointer := rfl
@[simp] theorem State.disownFlight_fetchFirst (s : State) : (s.disownFlight).fetchFirst = s.fetchFirst := rfl
@[simp] theorem State.disownFlight_decoder (s : State) : (s.disownFlight).decoder = s.decoder := rfl
@[simp] theorem State.disownFlight_status (s : State) : (s.disownFlight).status = s.status := rfl
@[simp] theorem State.disownFlight_mem (s : State) : (s.disownFlight).mem = s.mem := rfl
@[simp] theorem State.disownFlight_nextId (s : State) : (s.disownFlight).nextId = s.nextId := rfl
@[simp] theorem State.disownFlight_freeCount (s : State) : (s.disownFlight).freeCount = s.freeCount := rfl
@[simp] theorem State.disownFlight_pending (s : State) : (s.disownFlight).pending = s.pending := rfl

@[simp] theorem State.noteTaken_pins (s : State) (w : Word) : (s.noteTaken w).pins = s.pins := rfl
@[simp] theorem State.noteTaken_front (s : State) (w : Word) : (s.noteTaken w).front = s.front := rfl
@[simp] theorem State.noteTaken_inbound (s : State) (w : Word) : (s.noteTaken w).inbound = s.inbound := rfl
@[simp] theorem State.noteTaken_router (s : State) (w : Word) : (s.noteTaken w).router = s.router := rfl
@[simp] theorem State.noteTaken_outQueue (s : State) (w : Word) : (s.noteTaken w).outQueue = s.outQueue := rfl
@[simp] theorem State.noteTaken_mailboxOutstanding (s : State) (w : Word) : (s.noteTaken w).mailboxOutstanding = s.mailboxOutstanding := rfl
@[simp] theorem State.noteTaken_responses (s : State) (w : Word) : (s.noteTaken w).responses = s.responses := rfl
@[simp] theorem State.noteTaken_sentUpstream (s : State) (w : Word) : (s.noteTaken w).sentUpstream = s.sentUpstream := rfl
@[simp] theorem State.noteTaken_translator (s : State) (w : Word) : (s.noteTaken w).translator = s.translator := rfl
@[simp] theorem State.noteTaken_collector (s : State) (w : Word) : (s.noteTaken w).collector = s.collector := rfl
@[simp] theorem State.noteTaken_layouts (s : State) (w : Word) : (s.noteTaken w).layouts = s.layouts := rfl
@[simp] theorem State.noteTaken_planes (s : State) (w : Word) : (s.noteTaken w).planes = s.planes := rfl
@[simp] theorem State.noteTaken_frame (s : State) (w : Word) : (s.noteTaken w).frame = s.frame := rfl
@[simp] theorem State.noteTaken_tracker (s : State) (w : Word) : (s.noteTaken w).tracker = s.tracker := rfl
@[simp] theorem State.noteTaken_fill (s : State) (w : Word) : (s.noteTaken w).fill = s.fill := rfl
@[simp] theorem State.noteTaken_port (s : State) (w : Word) : (s.noteTaken w).port = s.port := rfl
@[simp] theorem State.noteTaken_pointer (s : State) (w : Word) : (s.noteTaken w).pointer = s.pointer := rfl
@[simp] theorem State.noteTaken_fetchFirst (s : State) (w : Word) : (s.noteTaken w).fetchFirst = s.fetchFirst := rfl
@[simp] theorem State.noteTaken_status (s : State) (w : Word) : (s.noteTaken w).status = s.status := rfl
@[simp] theorem State.noteTaken_mem (s : State) (w : Word) : (s.noteTaken w).mem = s.mem := rfl
@[simp] theorem State.noteTaken_nextId (s : State) (w : Word) : (s.noteTaken w).nextId = s.nextId := rfl
@[simp] theorem State.noteTaken_freeCount (s : State) (w : Word) : (s.noteTaken w).freeCount = s.freeCount := rfl
@[simp] theorem State.noteTaken_pending (s : State) (w : Word) : (s.noteTaken w).pending = s.pending := rfl

@[simp] theorem State.setWrite_write (s : State) (w : RecordWrite) :
    (s.setWrite w).status.write = w := rfl
@[simp] theorem State.setWrite_flags (s : State) (w : RecordWrite) :
    (s.setWrite w).status.flags = s.status.flags := rfl
@[simp] theorem State.setWrite_mask (s : State) (w : RecordWrite) :
    (s.setWrite w).status.mask = s.status.mask := rfl
@[simp] theorem State.setWrite_counters (s : State) (w : RecordWrite) :
    (s.setWrite w).status.counters = s.status.counters := rfl
@[simp] theorem State.count_flags (s : State) (c : Counter) (n : Nat) :
    (s.count c n).status.flags = s.status.flags := rfl
@[simp] theorem State.count_mask (s : State) (c : Counter) (n : Nat) :
    (s.count c n).status.mask = s.status.mask := rfl
@[simp] theorem State.count_write (s : State) (c : Counter) (n : Nat) :
    (s.count c n).status.write = s.status.write := rfl
@[simp] theorem State.setSlot_load (s : State) (i : Fin 8) (x : Slot) :
    (s.setSlot i x).layouts.load = s.layouts.load := rfl
@[simp] theorem State.setSlot_slots (s : State) (i : Fin 8) (x : Slot) :
    (s.setSlot i x).layouts.slots = s.layouts.slots.set i x := rfl
@[simp] theorem State.setSwitch_switch (s : State) (w : Switch) :
    (s.setSwitch w).planes.switch = w := rfl
@[simp] theorem State.setSwitch_select (s : State) (w : Switch) :
    (s.setSwitch w).planes.select = s.planes.select := rfl
@[simp] theorem State.setSwitch_scanned (s : State) (w : Switch) :
    (s.setSwitch w).planes.scanned = s.planes.scanned := rfl
@[simp] theorem State.setSwitch_a (s : State) (w : Switch) :
    (s.setSwitch w).planes.a = s.planes.a := rfl
@[simp] theorem State.setSwitch_b (s : State) (w : Switch) :
    (s.setSwitch w).planes.b = s.planes.b := rfl
@[simp] theorem State.setSwitch_swapLimit (s : State) (w : Switch) :
    (s.setSwitch w).planes.swapLimit = s.planes.swapLimit := rfl
@[simp] theorem State.moveSelect_select (s : State) (r : ArmRecord) :
    (s.moveSelect r).planes.select = r.target := rfl
@[simp] theorem State.setJobs_jobs (s : State) (jobs : List FillJob) :
    (s.setJobs jobs).fill.jobs = jobs := rfl
@[simp] theorem State.setJobs_burst (s : State) (jobs : List FillJob) :
    (s.setJobs jobs).fill.burst = s.fill.burst := rfl
@[simp] theorem State.setLink_link (s : State) (l : LinkState) :
    (s.setLink l).front.link = l := rfl
@[simp] theorem State.fly_port (s : State) (o : Origin) (a : Nat) (q : Payload) :
    (s.fly o a q).port = some { origin := o, addr := a, payload := q, moved := 0, wanted := true } := rfl
@[simp] theorem State.placeSegment_outQueue (s : State) (k : SegmentKind) (a : Nat) (q : Payload) :
    (s.placeSegment k a q).outQueue = s.outQueue ++ [{ id := s.nextId, kind := k, addr := a, payload := q }] := rfl

@[simp] theorem State.setPending_switch (s : State) (p : Plane) (m : Bool) : (s.setPending p m).planes.switch = s.planes.switch := by
  cases p <;> rfl

@[simp] theorem State.setPending_scanned (s : State) (p : Plane) (m : Bool) :
    (s.setPending p m).planes.scanned = s.planes.scanned := by cases p <;> rfl

@[simp] theorem State.setPending_select (s : State) (p : Plane) (m : Bool) : (s.setPending p m).planes.select = s.planes.select := by
  cases p <;> rfl

@[simp] theorem State.setPending_swapLimit (s : State) (p : Plane) (m : Bool) :
    (s.setPending p m).planes.swapLimit = s.planes.swapLimit := by cases p <;> rfl

@[simp] theorem State.setPending_binding (s : State) (p q : Plane) (m : Bool) :
    ((s.setPending p m).planes.entry q).binding = (s.planes.entry q).binding := by cases p <;> cases q <;> rfl

end Sys2Proof.Machine
end

