-- ==== Sys2Proof/Laws/Frames.lean ====
section
/-! SUPPORT. What the operations that end every step leave unchanged, said once for all of them: the part of the state that no
report, re-evaluation, grant or waiting insert touches. -/

namespace Sys2Proof.Machine

/-- The fields that `State.conclude` never changes. -/
structure Kept where
  pins : Pins
  front : FrontEnd
  inbound : List Request
  mailboxOutstanding : Option Nat
  slots : Vector Slot 8
  loading : Bool
  bindingA : Option (Fin 8)
  bindingB : Option (Fin 8)
  swapLimit : Nat
  ageInterval : Nat
  ageTimer : Option Nat
  frame : FrameMonitor
  tracker : Tracker
  decoder : Decoder
  mask : BitVec 14
  mem : Memory
  pending : List Instr

def State.kept (s : State) : Kept where
  pins := s.pins
  front := s.front
  inbound := s.inbound
  mailboxOutstanding := s.mailboxOutstanding
  slots := s.layouts.slots
  loading := s.layouts.load.isSome
  bindingA := s.planes.a.binding
  bindingB := s.planes.b.binding
  swapLimit := s.planes.swapLimit
  ageInterval := s.collector.ageInterval
  ageTimer := s.collector.ageTimer
  frame := s.frame
  tracker := s.tracker
  decoder := s.decoder
  mask := s.status.mask
  mem := s.mem
  pending := s.pending

/-! ### Status writer -/

/-- A cause for a record write changes the write state and the order of the control offers alone. -/
theorem State.recordCause_eq (s : State) :
    ∃ w b, s.recordCause = { s with status := { s.status with write := w }, fetchFirst := b } := by
  unfold State.recordCause State.offerRecord State.setWrite
  split
  · split
    · exact ⟨_, _, rfl⟩
    · exact ⟨_, s.fetchFirst, rfl⟩
  · exact ⟨s.status.write, s.fetchFirst, rfl⟩
  · exact ⟨s.status.write, s.fetchFirst, rfl⟩
  · exact ⟨_, s.fetchFirst, rfl⟩
  · exact ⟨s.status.write, s.fetchFirst, rfl⟩

/-- A report changes the flags, the write state and the order of the control offers alone. -/
theorem State.report_eq (s : State) (f : EventFlag) :
    ∃ fl w b, s.report f = { s with status := { s.status with flags := fl, write := w }, fetchFirst := b } := by
  unfold State.report
  split
  · exact ⟨s.status.flags, s.status.write, s.fetchFirst, rfl⟩
  · obtain ⟨w, b, h⟩ := State.recordCause_eq { s with status := { s.status with flags := s.status.flags ||| f.mask } }
    exact ⟨_, w, b, h⟩

/-- What status reports, counts and records may change: the status writer but its mask, and the order of the control offers. -/
theorem State.reportSaturations_eq (s : State) (n : Nat) :
    ∃ st b, st.mask = s.status.mask ∧ s.reportSaturations n = { s with status := st, fetchFirst := b } := by
  unfold State.reportSaturations
  split
  · exact ⟨s.status, s.fetchFirst, rfl, rfl⟩
  · obtain ⟨fl, w, b, h⟩ := State.report_eq (s.count .saturation n) .saturate
    exact ⟨{ (s.count .saturation n).status with flags := fl, write := w }, b, rfl, h⟩

@[simp] theorem State.recordCause_kept (s : State) : s.recordCause.kept = s.kept := by
  obtain ⟨w, b, h⟩ := s.recordCause_eq
  rw [h]; rfl

@[simp] theorem State.report_kept (s : State) (f : EventFlag) : (s.report f).kept = s.kept := by
  obtain ⟨fl, w, b, h⟩ := s.report_eq f
  rw [h]; rfl

@[simp] theorem State.count_kept (s : State) (c : Counter) (n : Nat) : (s.count c n).kept = s.kept := rfl

@[simp] theorem State.reportSaturations_kept (s : State) (n : Nat) : (s.reportSaturations n).kept = s.kept := by
  obtain ⟨st, b, hm, h⟩ := s.reportSaturations_eq n
  rw [h]; simp [State.kept, hm]

/-! ### Collector: the age timer's fields -/

/-- The age interval and the age timer. -/
def Collector.ageing (c : Collector) : Nat × Option Nat := (c.ageInterval, c.ageTimer)

theorem State.kept_collector (s : State) (c : Collector) (h : c.ageing = s.collector.ageing) :
    { s with collector := c }.kept = s.kept := by
  have h1 : c.ageInterval = s.collector.ageInterval := congrArg Prod.fst h
  have h2 : c.ageTimer = s.collector.ageTimer := congrArg Prod.snd h
  simp [State.kept, h1, h2]

namespace Collector

@[simp] theorem leaveOrdinary_ageing (c : Collector) (id : Nat) : (c.leaveOrdinary id).ageing = c.ageing := by
  unfold leaveOrdinary
  split <;> rfl

@[simp] theorem fillOrdinaryWith_ageing (c : Collector) (ids : List Nat) : (c.fillOrdinaryWith ids).ageing = c.ageing := by
  induction ids generalizing c with
  | nil => rfl
  | cons id rest ih => unfold fillOrdinaryWith; split <;> simp [ih]

@[simp] theorem askOrdinary_ageing (c : Collector) (id : Nat) : (c.askOrdinary id).ageing = c.ageing := by
  unfold askOrdinary
  split
  · rfl
  · split
    · split
      · simp
      · rfl
    · rfl
    · rfl

@[simp] theorem askEach_ageing (c : Collector) (ids : List Nat) : (c.askEach ids).ageing = c.ageing := by
  induction ids generalizing c with
  | nil => rfl
  | cons id rest ih => simp [askEach, ih]

@[simp] theorem movePriority_ageing (c : Collector) (id : Nat) : (c.movePriority id).ageing = c.ageing := by
  unfold movePriority
  split
  · rfl
  · split <;> rfl

@[simp] theorem moveEach_ageing (c : Collector) (ids : List Nat) : (c.moveEach ids).ageing = c.ageing := by
  induction ids generalizing c with
  | nil => rfl
  | cons id rest ih => unfold moveEach; split <;> simp [ih]

@[simp] theorem carryOut_ageing (c : Collector) : c.carryOut.ageing = c.ageing := by
  have h := moveEach_ageing c (c.requests.flatMap (·.moves))
  exact h

@[simp] theorem advance_ageing (c : Collector) : c.advance.ageing = c.ageing := by
  simp [advance, fillOrdinary]

@[simp] theorem makeRequest_ageing (c : Collector) (k : Key) : (c.makeRequest k).ageing = c.ageing := by
  unfold makeRequest
  split <;> rfl

@[simp] theorem makeRequests_ageing (c : Collector) (ks : List Key) : (c.makeRequests ks).ageing = c.ageing := by
  induction ks generalizing c with
  | nil => rfl
  | cons k rest ih => simp [makeRequests, ih]

@[simp] theorem requestPriority_ageing (c : Collector) (ks : List Key) : (c.requestPriority ks).ageing = c.ageing := by
  simp [requestPriority]

@[simp] theorem drain_ageing (c : Collector) (p : Plane) (n : Nat) (flying : List Nat) : (c.drain p n flying).ageing = c.ageing := by
  unfold drain
  dsimp only
  split
  · simp
  · have h := requestPriority_ageing c (c.drainKeys p)
    exact h

@[simp] theorem merge_ageing (c : Collector) (i : Insert) (e : Entry) : (c.merge i e).ageing = c.ageing := by
  unfold merge
  dsimp only
  split
  · rw [askOrdinary_ageing]; rfl
  · rfl

@[simp] theorem create_ageing (c : Collector) (i : Insert) (id : Nat) (b : Bool) : (c.create i id b).ageing = c.ageing := by
  unfold create
  dsimp only
  split
  · rw [askOrdinary_ageing]; rfl
  · rfl

@[simp] theorem insert_ageing (c : Collector) (i : Insert) (id : Nat) (b : Bool) : (c.insert i id b).collector.ageing = c.ageing := by
  unfold insert
  repeat' first | split | dsimp only
  all_goals simp

end Collector

/-! ### Swap controller and fill engine -/

@[simp] theorem State.setSwitch_kept (s : State) (w : Switch) : (s.setSwitch w).kept = s.kept := rfl

@[simp] theorem State.withdraw_kept (s : State) : s.withdraw.kept = s.kept := rfl

@[simp] theorem State.setJobs_kept (s : State) (jobs : List FillJob) : (s.setJobs jobs).kept = s.kept := rfl

@[simp] theorem State.setPending_kept (s : State) (p : Plane) (m : Bool) : (s.setPending p m).kept = s.kept := by
  cases p <;> rfl

/-- What becomes of the burst of a cancelled head job touches the engine's hand alone. -/
theorem State.cancelBurst_eq (s : State) : ∃ b, s.cancelBurst = { s with fill := { s.fill with burst := b } } := by
  unfold State.cancelBurst
  split
  · exact ⟨s.fill.burst, rfl⟩
  · exact ⟨_, rfl⟩

@[simp] theorem State.cancelBurst_kept (s : State) : s.cancelBurst.kept = s.kept := by
  obtain ⟨b, h⟩ := s.cancelBurst_eq
  rw [h]; rfl

/-- R148: what a reset leaves of the fill engine. -/
theorem State.cancelAllJobs_fill (s : State) (leavePaused : Bool) : (s.cancelAllJobs leavePaused).fill =
    { jobs := []
      burst := s.fill.burst.bind fun b => if b.granted then some { b with cancelled := true } else none
      paused := leavePaused
      pauseAsked := false } := by
  have h : s.cancelBurst.fill.burst = s.fill.burst.bind fun b => if b.granted then some { b with cancelled := true } else none := by
    unfold State.cancelBurst
    split <;> simp_all
  rw [← h]
  rfl

/-- What a reset leaves of the burst in flight. -/
theorem Flight.unwanted_eq (f : Flight) :
    f.unwanted = { f with wanted := f.wanted && (decide (f.origin = .record) || decide (f.origin = .fill)) } := by
  obtain ⟨origin, addr, payload, moved, wanted⟩ := f
  cases origin <;> simp [Flight.unwanted]

@[simp] theorem State.arm_kept (s : State) (c : ArmCause) : (s.arm c).kept = s.kept := by
  unfold State.arm
  dsimp only
  have h := Collector.drain_ageing s.collector s.planes.idle s.nextId (s.flying (Flight.flushOf s.planes.idle))
  have h1 := congrArg Prod.fst h
  have h2 := congrArg Prod.snd h
  simp only [Collector.ageing] at h1 h2
  simp [State.kept, h1, h2]

@[simp] theorem State.requestGuard_kept (s : State) (p : Plane) : (s.requestGuard p).kept = s.kept := by
  unfold State.requestGuard
  repeat' split
  all_goals simp

@[simp] theorem State.guardFor_kept (s : State) (p : Posture) : (s.guardFor p).kept = s.kept := by
  unfold State.guardFor
  repeat' split
  all_goals simp

@[simp] theorem State.unserved_kept (s : State) (p : Posture) : (s.unserved p).kept = s.kept := by simp [State.unserved]

@[simp] theorem State.reevaluate_kept (s : State) : s.reevaluate.kept = s.kept := by
  unfold State.reevaluate
  repeat' split
  all_goals simp

@[simp] theorem State.swapDone_kept (s : State) (r : ArmRecord) : (s.swapDone r).kept = s.kept := by
  unfold State.swapDone
  simp [State.kept]
  simpa [State.kept] using
    State.report_kept { s with planes := { s.planes with scanned := r.target, select := r.target, switch := .steady } } .swapDone

@[simp] theorem State.finishSwap_kept (s : State) (r : ArmRecord) : (s.finishSwap r).kept = s.kept := by simp [State.finishSwap]

@[simp] theorem State.settleSwaps_kept (n : Nat) (s : State) : (State.settleSwaps n s).kept = s.kept := by
  induction n generalizing s with
  | zero => rfl
  | succ n ih =>
    unfold State.settleSwaps
    split <;> simp [ih]

/-! ### Request path -/

@[simp] theorem State.takeInHand_kept (s : State) (plane : Plane) (layout : Option Layout) (steps : List LaneStep) :
    (s.takeInHand plane layout steps).kept = s.kept := by
  induction steps generalizing s with
  | nil => rfl
  | cons x rest ih =>
    cases x with
    | orphan => simp [State.takeInHand, State.dropOrphan, ih]
    | padding => simp [State.takeInHand, State.dropPadding, ih]
    | run v r lanes =>
      have h := s.reportSaturations_kept (runReports (s.boundSpine plane) lanes)
      simpa [State.takeInHand, State.kept] using h
    | turned lane =>
      have h := s.reportSaturations_kept (laneReports (s.boundSpine plane) lane.x lane.bytes)
      simpa [State.takeInHand, State.kept] using h

@[simp] theorem State.enquire_kept (s : State) (job : ReadJob) : (s.enquire job).kept = s.kept := by
  unfold State.enquire
  split
  · rfl
  · dsimp only
    split
    · rfl
    · next matched _ =>
      have h := Collector.requestPriority_ageing s.collector (PlanSegment.keys job.plane (by assumption))
      have h1 := congrArg Prod.fst h
      have h2 := congrArg Prod.snd h
      simp only [Collector.ageing] at h1 h2
      simp [State.kept, h1, h2]

@[simp] theorem State.setAssembled_kept (s : State) (id i : Nat) (qs : List (Quad LaneSource)) :
    (s.setAssembled id i qs).kept = s.kept := by
  induction qs generalizing s i with
  | nil => rfl
  | cons q rest ih =>
    unfold State.setAssembled
    split
    · rw [ih]; rfl
    · exact ih s (i + 1)

@[simp] theorem State.sendUpstream_kept (s : State) : s.sendUpstream.kept = s.kept := rfl

@[simp] theorem State.translatePiece_kept (s : State) (plane : Plane) (piece : Piece) (r : Option Nat) :
    (s.translatePiece plane piece r).kept = s.kept := by
  unfold State.translatePiece
  dsimp only
  split
  · simp
  · split
    · have h := State.setAssembled_kept s (r.getD 0) piece.first
        (readPlan (s.boundLayout plane) (planeBase s.fb plane) (s.offsetOf plane piece.addr) (by assumption)).2
      exact h
    · simp

@[simp] theorem State.workOn_kept (s : State) (hold : RouterHold) (ps : List Piece) : (s.workOn hold ps).kept = s.kept := by
  induction ps generalizing s with
  | nil => rfl
  | cons p rest ih =>
    unfold State.workOn
    dsimp only
    split
    · split
      · rw [ih, State.translatePiece_kept]; rfl
      · rw [State.translatePiece_kept]; rfl
    all_goals rfl

@[simp] theorem State.pieceHandedOn_kept (s : State) : s.pieceHandedOn.kept = s.kept := by
  unfold State.pieceHandedOn
  split <;> simp

@[simp] theorem State.handedOnIfIdle_kept (s : State) : s.handedOnIfIdle.kept = s.kept := by
  unfold State.handedOnIfIdle
  split <;> simp

@[simp] theorem State.goOn_kept (s : State) (job : WriteJob) : (s.goOn job).kept = s.kept := by simp [State.goOn]

@[simp] theorem State.offerInsert_kept (s : State) (job : WriteJob) (i : Insert) : (s.offerInsert job i).kept = s.kept := by
  have h := Collector.insert_ageing s.collector i s.nextId (decide (s.front.link = .sleepDrain))
  have h1 := congrArg Prod.fst h
  have h2 := congrArg Prod.snd h
  simp only [Collector.ageing] at h1 h2
  unfold State.offerInsert
  dsimp only
  split <;> split <;> simp [State.kept, h1, h2]
  all_goals
    have hg := State.goOn_kept
    simp [State.kept] at hg
    simp [hg, h1, h2]

@[simp] theorem State.retryInsert_kept (s : State) : s.retryInsert.kept = s.kept := by
  unfold State.retryInsert
  repeat' split
  all_goals first | rfl | simp

/-! ### Grants and the end of a step -/

@[simp] theorem State.grant_kept (s : State) (x : Source) : (s.grant x).kept = s.kept := by
  have ha (c : Collector) : c.advance.ageInterval = c.ageInterval ∧ c.advance.ageTimer = c.ageTimer := by
    have h := Collector.advance_ageing c
    exact ⟨congrArg Prod.fst h, congrArg Prod.snd h⟩
  cases x
  case fetch => simp only [State.grant, State.grantFetch]; split <;> simp_all [State.kept]
  case record => rfl
  case priority => simp only [State.grant, State.grantPriority]; split <;> simp [State.kept, ha]
  case path => simp only [State.grant, State.grantPath]; split <;> rfl
  case ordinary => simp only [State.grant, State.grantOrdinary]; split <;> simp [State.kept, ha]
  case fill => simp only [State.grant, State.grantFill]; split <;> rfl

@[simp] theorem State.choicePoint_kept (s : State) : s.choicePoint.kept = s.kept := by
  unfold State.choicePoint
  split
  · rfl
  · unfold State.grantPick
    split <;> simp

/-- The end of a step leaves alone everything but what reports, re-evaluation, grants and waiting inserts are about. -/
@[simp] theorem State.conclude_kept (s : State) : s.conclude.kept = s.kept := by simp [State.conclude]

@[simp] theorem State.completionChoice_kept (before s : State) : (State.completionChoice before s).kept = s.kept := by
  unfold State.completionChoice
  split
  · exact State.grant_kept s _
  · exact State.choicePoint_kept s

/-- Ordering two control offers touches their order and the free-value counter alone. -/
theorem State.orderOffers_eq (before s : State) :
    ∃ b n, State.orderOffers before s = { s with fetchFirst := b, freeCount := n } := by
  unfold State.orderOffers
  split
  · exact ⟨_, _, rfl⟩
  · exact ⟨s.fetchFirst, s.freeCount, rfl⟩

@[simp] theorem State.orderOffers_kept (before s : State) : (State.orderOffers before s).kept = s.kept := by
  obtain ⟨b, n, h⟩ := State.orderOffers_eq before s
  rw [h]; rfl

@[simp] theorem State.concludeCompletion_kept (before s : State) : (State.concludeCompletion before s).kept = s.kept := by
  simp [State.concludeCompletion]

/-- Whatever a command's step ends with keeps what the end of a step leaves alone. -/
theorem Act.answer_kept (before : State) (a : Act) : ∃ t, a.answer before = .next t ∧ t.kept = a.state.kept := by
  cases a with
  | still s => exact ⟨s, rfl, rfl⟩
  | concluded s => exact ⟨s.conclude, rfl, s.conclude_kept⟩
  | completed s => exact ⟨State.concludeCompletion before s, rfl, State.concludeCompletion_kept before s⟩

/-- Every command answers what it does itself and what its step ends with. -/
theorem exec_eq_act (c : Instr) (s : State) : exec c s = (act c s).answer s := by cases c <;> rfl

end Sys2Proof.Machine
end

