-- ==== Sys2Proof/Laws/Flags.lean ====
section
/-! SUPPORT. Event flags: a report sets its flag, and no operation that ends a step clears one. -/

namespace Sys2Proof.Machine

/-- Every flag set in s is set in t. -/
def FlagsStay (s t : State) : Prop := ∀ f, s.flag f = true → t.flag f = true

theorem FlagsStay.refl (s : State) : FlagsStay s s := fun _ h => h

theorem FlagsStay.trans {s t u : State} (h : FlagsStay s t) (k : FlagsStay t u) : FlagsStay s u := fun f hf => k f (h f hf)

/-- States with the same flags. -/
theorem FlagsStay.of_eq {s t : State} (h : t.status.flags = s.status.flags) : FlagsStay s t := by
  intro f hf
  unfold State.flag at *
  rw [h]; exact hf

/-! ### Reports -/

theorem EventFlag.mask_bit (f g : EventFlag) : f.mask.getLsbD g.bit = decide (g = f) := by
  cases f <;> cases g <;> decide

theorem State.recordCause_flags (s : State) : s.recordCause.status.flags = s.status.flags := by
  obtain ⟨w, b, h⟩ := s.recordCause_eq
  rw [h]

/-- A report sets its own flag and leaves every other. -/
theorem State.report_flag (s : State) (f g : EventFlag) : (s.report f).flag g = (decide (g = f) || s.flag g) := by
  unfold State.report
  split
  · next h =>
    by_cases e : g = f
    · subst e; simp [h]
    · simp [e]
  · unfold State.flag
    rw [State.recordCause_flags]
    simp only [BitVec.getLsbD_or, EventFlag.mask_bit]
    exact Bool.or_comm _ _

theorem State.report_flagsStay (s : State) (f : EventFlag) : FlagsStay s (s.report f) := by
  intro g hg
  rw [State.report_flag, hg]
  simp

theorem State.count_flagsStay (s : State) (c : Counter) (n : Nat) : FlagsStay s (s.count c n) := .of_eq rfl

theorem State.reportSaturations_flagsStay (s : State) (n : Nat) : FlagsStay s (s.reportSaturations n) := by
  unfold State.reportSaturations
  split
  · exact .refl s
  · exact (s.count_flagsStay .saturation n).trans (State.report_flagsStay _ _)

/-! ### Swap controller and fill engine -/

theorem State.requestGuard_flagsStay (s : State) (p : Plane) : FlagsStay s (s.requestGuard p) := by
  unfold State.requestGuard
  repeat' split
  · exact .refl s
  · exact s.report_flagsStay _
  · exact .of_eq rfl

theorem State.guardFor_flagsStay (s : State) (p : Posture) : FlagsStay s (s.guardFor p) := by
  unfold State.guardFor
  repeat' split
  all_goals first | exact .refl s | exact s.requestGuard_flagsStay _

theorem State.unserved_flagsStay (s : State) (p : Posture) : FlagsStay s (s.unserved p) :=
  (s.report_flagsStay .unserved).trans (State.guardFor_flagsStay _ p)

/-- An unserved posture sets UNSERVED. -/
theorem State.unserved_flag (s : State) (p : Posture) : (s.unserved p).flag .unserved = true :=
  State.guardFor_flagsStay _ p _ (by simp [State.report_flag])

theorem State.withdraw_flagsStay (s : State) : FlagsStay s s.withdraw := .of_eq rfl

theorem State.reevaluate_flagsStay (s : State) : FlagsStay s s.reevaluate := by
  unfold State.reevaluate
  repeat' split
  all_goals
    first
    | exact .refl s
    | exact .of_eq rfl
    | exact s.unserved_flagsStay _
    | exact s.withdraw_flagsStay.trans (State.unserved_flagsStay _ _)

theorem State.swapDone_flagsStay (s : State) (r : ArmRecord) : FlagsStay s (s.swapDone r) := by
  intro f hf
  unfold State.swapDone
  exact State.report_flagsStay _ _ f hf

/-- A swap done sets SWAP-DONE. -/
theorem State.swapDone_flag (s : State) (r : ArmRecord) : (s.swapDone r).flag .swapDone = true := by
  unfold State.swapDone
  simp [State.report_flag]

theorem State.finishSwap_flagsStay (s : State) (r : ArmRecord) : FlagsStay s (s.finishSwap r) :=
  (s.swapDone_flagsStay r).trans (State.reevaluate_flagsStay _)

theorem State.settleSwaps_flagsStay (n : Nat) (s : State) : FlagsStay s (State.settleSwaps n s) := by
  induction n generalizing s with
  | zero => exact .refl s
  | succ n ih =>
    unfold State.settleSwaps
    split
    · exact .refl s
    · exact (s.finishSwap_flagsStay _).trans (ih _)

/-! ### Request path -/

theorem State.takeInHand_flagsStay (s : State) (plane : Plane) (layout : Option Layout) (steps : List LaneStep) :
    FlagsStay s (s.takeInHand plane layout steps) := by
  induction steps generalizing s with
  | nil => exact .of_eq rfl
  | cons x rest ih =>
    cases x with
    | orphan => exact ((s.count_flagsStay .orphan 1).trans (State.report_flagsStay _ _)).trans (ih _)
    | padding => exact (s.count_flagsStay .padding 1).trans (ih _)
    | run v r lanes => exact (s.reportSaturations_flagsStay (runReports (s.boundSpine plane) lanes)).trans (.of_eq rfl)
    | turned lane => exact (s.reportSaturations_flagsStay (laneReports (s.boundSpine plane) lane.x lane.bytes)).trans (.of_eq rfl)

theorem State.enquire_flags (s : State) (job : ReadJob) : (s.enquire job).status.flags = s.status.flags := by
  unfold State.enquire
  split
  · rfl
  · dsimp only
    split <;> rfl

theorem State.setAssembled_status (s : State) (id i : Nat) (qs : List (Quad LaneSource)) :
    (s.setAssembled id i qs).status = s.status := by
  induction qs generalizing s i with
  | nil => rfl
  | cons q rest ih =>
    unfold State.setAssembled
    split
    · rw [ih]; rfl
    · exact ih s (i + 1)

theorem State.translatePiece_flagsStay (s : State) (plane : Plane) (piece : Piece) (r : Option Nat) :
    FlagsStay s (s.translatePiece plane piece r) := by
  unfold State.translatePiece
  dsimp only
  split
  · exact s.takeInHand_flagsStay _ _ _
  · split
    · refine .of_eq ?_
      exact congrArg StatusWriter.flags (State.setAssembled_status _ _ _ _)
    · refine .of_eq ?_
      rw [State.enquire_flags]
      exact congrArg StatusWriter.flags (State.setAssembled_status _ _ _ _)

theorem State.workOn_flagsStay (s : State) (hold : RouterHold) (ps : List Piece) : FlagsStay s (s.workOn hold ps) := by
  induction ps generalizing s with
  | nil => exact .of_eq rfl
  | cons p rest ih =>
    unfold State.workOn
    dsimp only
    split
    · split
      · refine FlagsStay.trans ?_ (ih _)
        intro f hf
        exact State.translatePiece_flagsStay _ _ _ _ f hf
      · intro f hf
        exact State.translatePiece_flagsStay _ _ _ _ f hf
    all_goals exact .of_eq rfl

theorem State.pieceHandedOn_flagsStay (s : State) : FlagsStay s s.pieceHandedOn := by
  unfold State.pieceHandedOn
  split
  · exact .refl s
  · exact s.workOn_flagsStay _ _

theorem State.handedOnIfIdle_flagsStay (s : State) : FlagsStay s s.handedOnIfIdle := by
  unfold State.handedOnIfIdle
  split
  · exact s.pieceHandedOn_flagsStay
  · exact .refl s

theorem State.goOn_flagsStay (s : State) (job : WriteJob) : FlagsStay s (s.goOn job) :=
  (s.takeInHand_flagsStay job.plane job.layout job.todo).trans (State.handedOnIfIdle_flagsStay _)

theorem State.offerInsert_flagsStay (s : State) (job : WriteJob) (i : Insert) : FlagsStay s (s.offerInsert job i) := by
  have taken (t : State) (h : t.status.flags = s.status.flags) : FlagsStay s (t.goOn job) :=
    (FlagsStay.of_eq h).trans (t.goOn_flagsStay job)
  unfold State.offerInsert
  dsimp only
  split
  · split
    · exact taken _ rfl
    · exact taken _ rfl
  · split
    · exact .of_eq rfl
    · exact .of_eq rfl

theorem State.retryInsert_flagsStay (s : State) : FlagsStay s s.retryInsert := by
  unfold State.retryInsert
  repeat' split
  all_goals first | exact .refl s | exact s.offerInsert_flagsStay _ _

/-! ### The end of a step -/

theorem State.grant_flags (s : State) (x : Source) : (s.grant x).status.flags = s.status.flags := by
  cases x
  case fetch => simp only [State.grant, State.grantFetch]; split <;> rfl
  case record => rfl
  case priority => simp only [State.grant, State.grantPriority]; split <;> rfl
  case path => simp only [State.grant, State.grantPath]; split <;> rfl
  case ordinary => simp only [State.grant, State.grantOrdinary]; split <;> rfl
  case fill => simp only [State.grant, State.grantFill]; split <;> rfl

theorem State.choicePoint_flags (s : State) : s.choicePoint.status.flags = s.status.flags := by
  unfold State.choicePoint
  split
  · rfl
  · unfold State.grantPick
    split
    · rfl
    · exact s.grant_flags _

/-- The end of a step clears no flag. -/
theorem State.conclude_flagsStay (s : State) : FlagsStay s s.conclude :=
  (((State.settleSwaps_flagsStay 2 s).trans (State.retryInsert_flagsStay _)).trans
    (.of_eq (State.choicePoint_flags _))).trans (State.retryInsert_flagsStay _)

theorem State.orderOffers_flagsStay (before s : State) : FlagsStay s (State.orderOffers before s) := by
  obtain ⟨b, n, h⟩ := State.orderOffers_eq before s
  rw [h]; exact .of_eq rfl

/-- Nor does the end of a step in which a burst has completed. -/
theorem State.concludeCompletion_flagsStay (before s : State) : FlagsStay s (State.concludeCompletion before s) := by
  refine ((State.settleSwaps_flagsStay 2 s).trans (State.retryInsert_flagsStay _)).trans
    (FlagsStay.trans ?_ ((State.retryInsert_flagsStay _).trans (State.orderOffers_flagsStay before _)))
  unfold State.completionChoice
  split
  · exact .of_eq (State.grant_flags _ _)
  · exact .of_eq (State.choicePoint_flags _)

end Sys2Proof.Machine
end

