-- ==== Sys2Proof/Laws/Memory.lean ====
section
/-! SUPPORT. The attached memory: every operation keeps the canonical form, and what a byte reads as after each. -/

namespace Sys2Proof.Machine

namespace Memory

/-- The canonical form of a listed memory says its head is below every later address. -/
theorem wf_cons (k : Nat) (v : Byte) (m : Memory) : wf ((k, v) :: m) = true ↔ wf m = true ∧ ∀ c ∈ m, k < c.1 := by
  induction m generalizing k v with
  | nil => simp [wf]
  | cons c rest ih =>
    obtain ⟨j, w⟩ := c
    simp only [wf, Bool.and_eq_true, decide_eq_true_eq, List.mem_cons, forall_eq_or_imp]
    constructor
    · rintro ⟨h, hw⟩
      exact ⟨hw, h, fun c hc => Nat.lt_trans h ((ih j w |>.1 hw).2 c hc)⟩
    · rintro ⟨hw, h, -⟩
      exact ⟨h, hw⟩

theorem mem_put (a : Nat) (v : Byte) (m : Memory) (c : Host.Cell) (h : c ∈ put a v m) : c = (a, v) ∨ c ∈ m := by
  induction m with
  | nil => simpa [put] using h
  | cons d rest ih =>
    obtain ⟨k, w⟩ := d
    unfold put at h
    split at h
    · simpa using h
    · split at h
      · rcases List.mem_cons.1 h with h | h
        · exact .inl h
        · exact .inr (List.mem_cons_of_mem _ h)
      · rcases List.mem_cons.1 h with h | h
        · exact .inr (h ▸ List.mem_cons_self)
        · exact (ih h).imp_right (List.mem_cons_of_mem _)

/-- A put keeps the canonical form. -/
theorem put_wf (a : Nat) (v : Byte) (m : Memory) (h : wf m = true) : wf (put a v m) = true := by
  induction m with
  | nil => rfl
  | cons d rest ih =>
    obtain ⟨k, w⟩ := d
    obtain ⟨hr, hk⟩ := (wf_cons k w rest).1 h
    unfold put
    split
    · next hlt =>
      refine (wf_cons a v _).2 ⟨h, fun c hc => ?_⟩
      rcases List.mem_cons.1 hc with rfl | hc
      · exact hlt
      · exact Nat.lt_trans hlt (hk c hc)
    · split
      · next heq =>
        refine (wf_cons a v rest).2 ⟨hr, fun c hc => ?_⟩
        exact heq ▸ hk c hc
      · next hlt hne =>
        refine (wf_cons k w _).2 ⟨ih hr, fun c hc => ?_⟩
        rcases mem_put a v rest c hc with rfl | hc
        · exact Nat.lt_of_le_of_ne (Nat.le_of_not_lt hlt) fun e => hne e.symm
        · exact hk c hc

theorem write_wf (a : Nat) (v : Byte) (m : Memory) (h : wf m = true) : wf (write a v m) = true := by
  unfold write
  split
  · exact put_wf a v m h
  · exact h

theorem writeMasked_wf (a : Nat) (b : Option Byte) (m : Memory) (h : wf m = true) : wf (writeMasked a b m) = true := by
  cases b with
  | none => exact h
  | some v => exact write_wf a v m h

theorem writeLane_wf (a : Nat) (l : MaskedLane) (m : Memory) (h : wf m = true) : wf (writeLane a l m) = true :=
  writeMasked_wf _ _ _ (writeMasked_wf _ _ _ (writeMasked_wf _ _ _ (writeMasked_wf _ _ _ h)))

theorem writeBeat_wf (a : Nat) (b : MaskedBeat) (m : Memory) (h : wf m = true) : wf (writeBeat a b m) = true :=
  writeLane_wf _ _ _ (writeLane_wf _ _ _ (writeLane_wf _ _ _ (writeLane_wf _ _ _ h)))

/-- Every write to memory goes through `writeBeats`, which keeps the canonical form. -/
theorem writeBeats_wf (a : Nat) (beats : List MaskedBeat) (m : Memory) (h : wf m = true) : wf (writeBeats a beats m) = true := by
  induction beats generalizing a m with
  | nil => exact h
  | cons b rest ih => exact ih (a + 16) (writeBeat a b m) (writeBeat_wf a b m h)

theorem reset_wf : wf State.reset.mem = true := rfl

/-! ### What a byte reads as -/

theorem read_put_same (a : Nat) (v : Byte) (m : Memory) : read a (put a v m) = some v := by
  induction m with
  | nil => simp [put, read]
  | cons d rest ih =>
    obtain ⟨k, w⟩ := d
    unfold put
    split
    · simp [read]
    · split
      · simp [read]
      · next hne => simp [read, Ne.symm hne, ih]

theorem read_put_other (a b : Nat) (v : Byte) (m : Memory) (h : b ≠ a) : read b (put a v m) = read b m := by
  induction m with
  | nil => simp [put, read, Ne.symm h]
  | cons d rest ih =>
    obtain ⟨k, w⟩ := d
    unfold put
    split
    · simp [read, Ne.symm h]
    · split
      · next heq => subst heq; simp [read, Ne.symm h]
      · simp [read, ih]

/-- A masked write changes at most its one byte. -/
theorem read_writeMasked_other (a b : Nat) (x : Option Byte) (m : Memory) (h : b ≠ a) :
    read b (writeMasked a x m) = read b m := by
  cases x with
  | none => rfl
  | some v =>
    simp only [writeMasked, write]
    split
    · exact read_put_other a b v m h
    · rfl

/-- A masked write of an address the space holds: the byte presented, or the byte that stood. -/
theorem read_writeMasked_same (a : Nat) (x : Option Byte) (m : Memory) (h : a < 4294967296) :
    read a (writeMasked a x m) =
      match x with
      | some v => some v
      | none => read a m := by
  cases x with
  | none => rfl
  | some v => simp [writeMasked, write, h, read_put_same]

theorem read_writeLane_other (a b : Nat) (l : MaskedLane) (m : Memory) (h : b < a ∨ a + 4 ≤ b) :
    read b (writeLane a l m) = read b m := by
  unfold writeLane
  rw [read_writeMasked_other _ _ _ _ (by omega), read_writeMasked_other _ _ _ _ (by omega),
    read_writeMasked_other _ _ _ _ (by omega), read_writeMasked_other _ _ _ _ (by omega)]

theorem read_writeBeat_other (a b : Nat) (x : MaskedBeat) (m : Memory) (h : b < a ∨ a + 16 ≤ b) :
    read b (writeBeat a x m) = read b m := by
  unfold writeBeat
  rw [read_writeLane_other _ _ _ _ (by omega), read_writeLane_other _ _ _ _ (by omega),
    read_writeLane_other _ _ _ _ (by omega), read_writeLane_other _ _ _ _ (by omega)]

/-- A burst changes no byte outside it. -/
theorem read_writeBeats_other (a b : Nat) (beats : List MaskedBeat) (m : Memory) (h : b < a ∨ a + 16 * beats.length ≤ b) :
    read b (writeBeats a beats m) = read b m := by
  induction beats generalizing a m with
  | nil => rfl
  | cons x rest ih =>
    simp only [List.length_cons] at h
    simp only [writeBeats]
    rw [ih (a + 16) (writeBeat a x m) (by omega), read_writeBeat_other a b x m (by omega)]

end Memory

/-! ### The steps that write memory -/

/-- What a completed burst leaves in memory is canonical. -/
theorem State.landed_wf (s : State) (f : Flight) (h : Memory.wf s.mem = true) : Memory.wf (s.landed f) = true := by
  unfold State.landed
  split
  · exact Memory.writeBeats_wf _ _ _ h
  · exact h

/-- What a cut burst leaves in memory is canonical. -/
theorem State.cutFlight_wf (s : State) (h : Memory.wf s.mem = true) : Memory.wf s.cutFlight = true := by
  unfold State.cutFlight
  split
  · exact h
  · split
    · exact h
    · exact Memory.writeBeats_wf _ _ _ h

end Sys2Proof.Machine
end

