-- ==== Sys2Proof/Laws/Records.lean ====
section
/-! SUPPORT. Control records: the judgement of a record said once, the operand words read, and what a taken record leaves of the
decoder. -/

namespace Sys2Proof.Machine

/-- A record with a right check word that reaches a decoder not busy is acted on. -/
theorem State.controlRecord_taken (s : State) (command : Word) (act : State → State) (h : s.attends = true) :
    s.controlRecord command (~~~command) act = .concluded (act (s.noteTaken command)) := by
  simp [State.attends] at h
  simp [State.controlRecord, State.arrive, State.takes, h]

/-- RESET is acted on busy or not. -/
theorem State.controlRecord_reset (s : State) (act : State → State) (h : s.decoderReached = true) :
    s.controlRecord 12 (~~~12) act = .concluded (act (s.noteTaken 12)) := by
  simp [State.controlRecord, State.arrive, State.takes, h]

/-- A rejected record is counted and nothing else. -/
theorem State.controlRecord_rejected (s : State) (command check : Word) (act : State → State) (h : s.decoderReached = true)
    (hr : s.takes command check = false) : s.controlRecord command check act = .concluded s.rejectRecord := by
  simp [State.controlRecord, State.arrive, h, hr]

/-- A record that does not reach the decoder has no effect. -/
theorem State.controlRecord_away (s : State) (command check : Word) (act : State → State) (h : s.decoderReached = false) :
    s.controlRecord command check act = .still s := by
  simp [State.controlRecord, h]

/-- A LOAD that begins moves the mailbox outstanding indication to the write placed last, if one is not yet written. -/
theorem State.awaitWrites_eq (s : State) :
    s.awaitWrites = { s with mailboxOutstanding := if s.newestWrite = none then s.mailboxOutstanding else s.newestWrite } := by
  unfold State.awaitWrites
  split <;> simp_all

/-- What `noteTaken` and `recordResult` make of a state between them. -/
theorem State.recordResult_noteTaken (s : State) (command : Word) (r : Result) :
    (s.noteTaken command).recordResult r = s.answered (command.setWidth 8) r := rfl

/-! ### Operand words -/

theorem slotOf_high (w : Word) (h : 8 ≤ w.toNat) : slotOf w = none := by
  simp [slotOf]; omega

theorem slotOf_number (w : Word) (i : Fin 8) (h : w.toNat = i.val) : slotOf w = some i := by
  have := i.isLt
  simp [slotOf, h]

theorem planeOf_high (w : Word) (h : 2 ≤ w.toNat) : planeOf w = none := by
  unfold planeOf
  split <;> first | rfl | omega

theorem planeOf_number (w : Word) (p : Plane) (h : w.toNat = p.number) : planeOf w = some p := by
  unfold planeOf
  cases p <;> simp_all [Plane.number]

theorem mapEntryOf_byte (w : Word) (e : Option (Fin 8)) (h : w.toNat = mapByte e) : mapEntryOf w = some e := by
  cases e with
  | none =>
    have h' : w.toNat = 15 := h
    simp [mapEntryOf, h']
  | some i =>
    have h' : w.toNat = i.val := h
    have := i.isLt
    have h15 : w.toNat ≠ 15 := by omega
    rw [mapEntryOf, if_neg h15, slotOf_number w i h']

theorem mapEntryOf_bad (w : Word) (h : ¬(w.toNat < 8 ∨ w.toNat = 15)) : mapEntryOf w = none := by
  have h8 : 8 ≤ w.toNat := by omega
  have h15 : w.toNat ≠ 15 := by omega
  rw [mapEntryOf, if_neg h15, slotOf_high w h8]

end Sys2Proof.Machine
end

