-- ==== Sys2Proof/Tests/Slice0.lean ====
section
/-! SUPPORT. Tests: ill-formed commands, the worked examples of the spec, and for each obligation with hypotheses a concrete state and
operands that meet them. -/

namespace Sys2Proof.Tests

open Sys2Proof Sys2Proof.Machine

/-! ### States to test on -/

/-- The part in AWAKE with its power-on record written and the port IDLE. -/
def awake : State :=
  { State.reset with
    pins := { State.reset.pins with powerOnReset := false }
    front := { State.reset.front with link := .awake }
    collector := { Collector.reset with ageTimer := some 8 }
    frame := { State.reset.frame with scanTimer := some 50 }
    tracker := { Tracker.reset with sampleTimer := some 5 }
    status := { State.reset.status with flags := 0, write := .quiet } }

def noLane : MaskedLane := Quad.replicate none

def fullLaneOf (b : Byte) : MaskedLane := Quad.replicate (some b)

/-- A beat with every byte enabled and equal. -/
def solid (b : Byte) : MaskedBeat := Quad.replicate (fullLaneOf b)

def allEnables : EnableBeat := Quad.replicate (Quad.replicate true)

def blankData : DataBeat := Quad.replicate (Quad.replicate 0)

/-- A write burst of the request path in flight. -/
def writeFlight : Flight := { origin := .path 0 (.pass none), addr := 0x100, payload := .write [solid 7], moved := 0, wanted := true }

/-- A read burst in flight, one beat of two returned. -/
def readFlight (origin : Origin) : Flight :=
  { origin := origin, addr := 0x4000400, payload := .read [allEnables, allEnables], moved := 1, wanted := true }

/-- The view over the spine band of 2.11. -/
def spineView (r : Rotation) (mirror : Bool) : View :=
  { number := 2, rotation := r, mirror := mirror, base := 15552000, wv := 1800, hv := 240, sv := 7200, x0 := 1080, y0 := 0 }

def leftView : View :=
  { number := 0, rotation := .r0, mirror := false, base := 0, wv := 1080, hv := 1800, sv := 4320, x0 := 0, y0 := 0 }

def rightView : View :=
  { number := 1, rotation := .r180, mirror := false, base := 7776000, wv := 1080, hv := 1800, sv := 4320, x0 := 1320, y0 := 0 }

def bandSpine : Spine := { start := 1080, width := 240, knots := List.replicate 31 16384 }

def bandGuard : Guard :=
  { colour := Quad.replicate 0, onClosed := false, onPartial := true, onOpen := true,
    rects := [{ x := 1080, y := 0, width := 240, height := 1800 }] }

/-- The closed layout of 2.11. -/
def closedLayout : Layout where
  tag := 0x0C01
  background := Quad.replicate 0
  views := [leftView, rightView, spineView .r90 false]
  spine := some bandSpine
  guard := some bandGuard

/-- Plane B bound to slot 3 with the closed layout. -/
def bound : State :=
  { awake with
    layouts := { awake.layouts with slots := awake.layouts.slots.set 3 (.ready closedLayout) }
    planes := { awake.planes with b := ⟨some 3, false⟩ } }

def armRecord : ArmRecord :=
  { cause := .host, target := .B, commit := 0, limit := 100, collectorWaiting := false, pathWaiting := [], selectMoved := false }

/-- A swap to plane B armed, its drain complete. -/
def armed : State := { bound with planes := { bound.planes with switch := .armed armRecord } }

/-- The same with a drain that waits for the segment named 0. -/
def draining : State :=
  { bound with planes := { bound.planes with switch := .armed { armRecord with pathWaiting := [0] } } }

/-- The same with the select line moved. -/
def moved : State :=
  { bound with planes := { bound.planes with select := .B, switch := .armed { armRecord with selectMoved := true } } }

def keyA : Key := { plane := .A, beat := 0x100 }

def insertA : Insert := { key := keyA, lane := 0, bytes := fullLaneOf 1, shared := false }

def entryA : Entry := { id := 5, key := keyA, data := solid 1, age := 1, flush := .held }

def flushA : FlushWrite := { id := 6, key := keyA, data := solid 2 }

/-- A load into slot 5 whose HEAD fetch waits. -/
def headLoad : Load :=
  { slot := 5, offset := 0x400, kind := .head, fetched := 0, staging := Staging.cleared, phase := .waiting, data := [] }

def loading : State :=
  { bound with
    layouts := { slots := bound.layouts.slots.set 5 (.loading none), load := some headLoad }
    decoder := { bound.decoder with busy := true } }

def writeAt (beat : BitVec 28) (beats : List MaskedBeat) : Request := { beatAddress := beat, payload := .write beats }

def readAt (beat : BitVec 28) (beats : List EnableBeat) : Request := { beatAddress := beat, payload := .read beats }

/-! ### Well-formedness and decoding -/

theorem test_request_without_beats_is_refused : (Instr.accept (writeAt 0 [])).wf = false := by decide

theorem test_request_of_17_beats_is_refused : (Instr.accept (writeAt 0 (List.replicate 17 (solid 0)))).wf = false := by decide

theorem test_read_of_17_beats_is_refused : (Instr.accept (readAt 0 (List.replicate 17 allEnables))).wf = false := by decide

theorem test_bad_command_row_refuses_a_command : (Instr.badCommand 12 0).wf = false ∧ (Instr.badCommand 1 0).wf = false := by decide

theorem test_well_formed : (Instr.accept (readAt 0 (List.replicate 16 allEnables))).wf = true ∧ (Instr.badCommand 13 0).wf = true ∧
    (Instr.badCommand 0 0).wf = true ∧ (Instr.badCommand 0x101 0).wf = true := by decide

/-- No row of the table gives bits. -/
theorem test_no_word_spells_a_command : decodeTableWord 0 0 = none ∧ decodeTableWord 32 1 = none := by decide

/-! ### Worked examples of the spec -/

/-- 3.8: two row runs make two straight segments. -/
theorem test_worked_3_8 :
    (laneSteps (some closedLayout)
        (lanesFrom 47488 [solid 1, solid 2, solid 3, ⟨fullLaneOf 4, fullLaneOf 4, fullLaneOf 4, noLane⟩])).map
      (fun step =>
        match step with
        | .run v r lanes => (v, r, runAddr 0x42000000 lanes, (runBeats none lanes).length)
        | _ => (9, 9, 0, 0)) =
      [(0, 10, 0x420187C0, 2), (0, 11, 0x42019C80, 2)] := by decide

/-- 3.9: under rotation 180 the lanes and the beats are reversed. -/
theorem test_worked_3_9 :
    (match laneSteps (some closedLayout)
        (lanesFrom 7776000
          [⟨fullLaneOf 0, fullLaneOf 1, fullLaneOf 2, fullLaneOf 3⟩, ⟨fullLaneOf 4, fullLaneOf 5, fullLaneOf 6, fullLaneOf 7⟩]) with
      | [.run 1 0 lanes] => (runAddr 0x42000000 lanes, runBeats none lanes)
      | _ => (0, [])) =
      (0x4307ABE0,
        [⟨fullLaneOf 7, fullLaneOf 6, fullLaneOf 5, fullLaneOf 4⟩, ⟨fullLaneOf 3, fullLaneOf 2, fullLaneOf 1, fullLaneOf 0⟩]) := by
  decide

/-- 3.10: a beat of a view turned by 90 degrees becomes four inserts, 9600 bytes apart. -/
theorem test_worked_3_10 :
    let v : View :=
      { number := 0, rotation := .r90, mirror := false, base := 0, wv := 1800, hv := 2400, sv := 7680, x0 := 0, y0 := 0 }
    let l : Layout := { tag := 0, background := Quad.replicate 0, views := [v], spine := none, guard := none }
    (laneSteps (some l) (lanesFrom 1234576 [solid 1])).map
        (fun step =>
          match step with
          | .turned p => ((insertOf (some l) none .B 0 p).key.beat, (insertOf (some l) none .B 0 p).lane)
          | _ => (0, 9)) =
      [(13871344, 3), (13880944, 3), (13890544, 3), (13900144, 3)] ∧
    outcomeOf (some l) 1236000 = .padding := by decide

/-- 3.11: the same pixel under four turns. -/
theorem test_worked_3_11 :
    (spineView .r90 false).panel 100 5 = (1314, 100) ∧ (spineView .r90 true).panel 100 5 = (1314, 1699) ∧
      (spineView .r270 false).panel 100 5 = (1085, 1699) ∧ (spineView .r270 true).panel 100 5 = (1085, 100) ∧
      panelBeat 0 1085 100 = 964336 := by decide

/-- 7.9: from codes to a fused angle. -/
theorem test_worked_7_9 :
    reading 1000 (-12) = 866 ∧ reading 1010 3 = 890 ∧ reading 2200 3 = 1800 ∧ clampReports (some 2200) 3 = 1 ∧
      Tracker.fuse Tracker.reset (some 866) (some 890) = some 878 ∧
      Tracker.classify { Tracker.reset with settled := some .OPEN } 878 = .PARTIAL := by decide

/-- 7.10: dwell through an interruption. -/
theorem test_worked_7_10 :
    let start : Tracker := { Tracker.reset with settled := some .OPEN, dwell := 4 }
    let run := [some 1600, some 1500, some 1480, none, some 1560, some 1600, some 1400, some 140, some 120, some 120, some 118]
    let after := fun n => (run.take n).foldl (Tracker.settleBy · false) start
    (after 5).candidate = some (.PARTIAL, 3) ∧ (after 6).candidate = none ∧ (after 10).candidate = some (.CLOSED, 3) ∧
      (after 11).settled = some .CLOSED ∧ (after 11).candidate = none := by decide

/-- 8.7: the bursts of one row of a background sweep. -/
theorem test_worked_8_7 :
    let panel : Rect := { x := 0, y := 0, width := 2400, height := 1800 }
    let holes : List Rect := [{ x := 702, y := 0, width := 1002, height := 1800 }]
    runLength panel holes 0 16 160 = 16 ∧ cursorFrom [panel] holes ⟨0, 0, 160⟩ 176 = some ⟨0, 0, 426⟩ ∧
      runLength panel holes 0 16 586 = 14 ∧ cursorFrom [panel] holes ⟨0, 0, 586⟩ 600 = some ⟨0, 1, 0⟩ ∧
      fillLane none panel holes ⟨1, 2, 3, 4⟩ 0 702 = noLane := by decide

/-- 11.6: the bytes of one control record act as the LOAD they spell. -/
theorem test_worked_11_6 :
    let bytes : List Byte := [1, 0, 0, 0, 0xFE, 0xFF, 0xFF, 0xFF, 3, 0, 0, 0, 0, 4, 0, 0]
    recordWord bytes 0 = 1 ∧ recordWord bytes 1 = ~~~1 ∧ slotOf (recordWord bytes 2) = some 3 ∧
      (recordWord bytes 3).toNat = 0x400 := by decide

/-- 2.11: the views of the closed layout pass the checks of a load. -/
theorem test_worked_2_11 :
    (closedLayout.views.all View.wellPlaced) = true ∧ apart windowsMeet closedLayout.views = true ∧
      apart rectsMeet (closedLayout.views.map View.panelRect) = true := by decide

/-- 2.11: a HEAD record is read, and its link announces VIEW at 0x420. -/
theorem test_worked_2_11_head :
    let bytes : List Byte := [1, 0, 0, 0, 2, 0, 0x20, 4, 1, 0x0C, 3]
    checkRecord headLoad bytes =
      ({ Staging.cleared with head := some { tag := 0x0C01, background := Quad.replicate 0, declared := 3 } }, .fetch .view 0x420) := by
  decide

/-! ### Beats two views share, and a LOAD behind writes -/

/-- Two turned views that meet at column 6: beats 1 of their rows hold pixels of both. -/
def sharingLayout : Layout where
  tag := 0
  background := Quad.replicate 0
  views :=
    [{ number := 0, rotation := .r90, mirror := false, base := 0, wv := 8, hv := 6, sv := 32, x0 := 0, y0 := 0 },
      { number := 1, rotation := .r90, mirror := false, base := 256, wv := 8, hv := 6, sv := 32, x0 := 6, y0 := 0 }]
  spine := none
  guard := none

theorem sharingLayout_sound : sharingLayout.Sound :=
  ⟨by decide, by decide, by decide, by decide, by decide, nofun, nofun⟩

/-- The lanes of both views in beat 1 of row 0: columns 4 and 5 of view 0, 6 and 7 of view 1. -/
theorem test_shared_beats :
    (laneSteps (some sharingLayout) [(1 * 32, fullLaneOf 1), (256 + 5 * 32, fullLaneOf 2)]).map
        (fun step =>
          match step with
          | .turned p =>
            let i := insertOf (some sharingLayout) none .A 0 p
            (i.key.beat, i.lane, i.shared)
          | _ => (0, 9, false)) =
      [(16, 0, true), (16, 2, true)] ∧
    beatShared (some sharingLayout) 7 7 = true ∧ beatShared (some sharingLayout) 3 0 = false ∧
    beatShared (some sharingLayout) 8 0 = false ∧ beatShared (some sharingLayout) 4 8 = false ∧ beatShared none 4 0 = false ∧
    (∃ k < 4, (sharingLayout.views.getD 1 leftView).panelRect.covers (4 * 1 + k) 0 = true) ∧
      (sharingLayout.views.getD 0 leftView).panelRect.covers 6 0 = false := by decide

/-- An entry that lacks lane 0 alone. -/
def partlyFilled : Entry := { entryA with data := ⟨noLane, fullLaneOf 1, fullLaneOf 1, fullLaneOf 1⟩, age := 0 }

/-- R80, R83: a merge is taken at once; one that completes a beat flushes it, and does not where two views share it. -/
theorem test_completion_flush :
    let c : Collector := { awake.collector with table := [partlyFilled] }
    let alone := c.insert insertA 9 false
    let shared := c.insert { insertA with shared := true } 9 false
    c.entryFor insertA.key = some partlyFilled ∧
      (alone.taken = true ∧ alone.collector.table = [] ∧ alone.collector.ordinary.length = 1) ∧
      (shared.taken = true ∧ shared.created = false ∧ shared.collector.ordinary = [] ∧
        shared.collector.table.map (fun e => (e.data.get 0, e.data.get 1, e.age, e.flush)) =
          [(fullLaneOf 1, fullLaneOf 1, 0, .held)]) := by decide

/-- R27: a LOAD sent by its row waits for the last write placed before it, and not for a read after that. -/
theorem test_load_waits_for_earlier_writes :
    let write : Segment := { id := 3, kind := .pass none, addr := 0x4000400, payload := .write [solid 1] }
    let read : Segment := { id := 4, kind := .pass (some (9, 0)), addr := 0x4000400, payload := .read [allEnables] }
    let s : State := { bound with port := some writeFlight, outQueue := [write, read] }
    s.newestWrite = some 3 ∧ ({ s with outQueue := [read] } : State).newestWrite = some 0 ∧ bound.newestWrite = none ∧
      (match exec (.load (~~~1) 5 0x400) s with
        | .next t => t.mailboxOutstanding
        | _ => none) = some 3 := by decide

/-! ### The hypotheses of the obligations are met -/

theorem test_witness_StepRunsTheFrontCommand : awake.pending = [] := rfl

/-- A state in which a load, an armed swap's kin and a queue are at work meets every invariant and steps. -/
theorem test_witness_invariants_planes : ({ loading with pending := [.ageTick] } : State).PlaneInv ∧
    ∃ t, step { loading with pending := [.ageTick] } = .next t := by
  refine ⟨⟨⟨by decide, ?_, ?_, by decide⟩, ⟨by decide, by decide⟩, rfl⟩, _, rfl⟩
  · intro i; revert i; decide
  · intro i; revert i; decide

theorem test_witness_invariants_counts : ({ awake with pending := [.ageTick] } : State).Capacities ∧
    ({ awake with pending := [.ageTick] } : State).SettingsInv ∧ ∃ t, step { awake with pending := [.ageTick] } = .next t := by
  refine ⟨⟨by decide, by decide, by decide, by decide, by decide, by decide, by decide⟩,
    ⟨by decide, by decide, by decide, by decide,
      ⟨by decide, by decide, by decide, by decide, by decide, ?_, by decide, by decide, ?_⟩, by decide⟩, _, rfl⟩
  · intro a h; exact absurd h (by simp [awake, Tracker.reset])
  · intro p n h; exact absurd h (by simp [awake, Tracker.reset])

/-- An insert in hand, an entry in the table, a free port. -/
def inserting : State :=
  { bound with
    router := some { request := writeAt 0x10 [solid 1], pieces := [], response := none }
    collector := { bound.collector with table := [entryA] }
    translator := .writing { plane := .A, layout := some identityLayout, todo := [], hand := .insert insertA false } }

theorem test_witness_CollectorLawIsKept : ({ inserting with pending := [.collectorInsert] } : State).CollectorInv ∧
    ∃ t, step { inserting with pending := [.collectorInsert] } = .next t := by
  refine ⟨⟨by decide, by decide, ?_, ?_⟩, _, rfl⟩
  · intro job h i w hi
    have h : job = { plane := .A, layout := some identityLayout, todo := [], hand := .insert insertA false } := by
      simpa [inserting, eq_comm] using h
    subst h
    have hi : i = insertA := by simpa [eq_comm] using (Hand.insert.inj hi).1
    subst hi; decide
  · intro job h lane hl
    have h : job = { plane := .A, layout := some identityLayout, todo := [], hand := .insert insertA false } := by
      simpa [inserting, eq_comm] using h
    subst h; simp at hl

/-- A BACKGROUND job and a GUARD job queued. -/
def filling : State :=
  { bound with
    planes := { bound.planes with b := ⟨some 3, true⟩ }
    fill := { bound.fill with jobs := [newJob .B .background, newJob .A .guard] } }

theorem test_witness_FillQueueLawIsKept : ({ filling with pending := [.fillJobStart] } : State).PlaneInv ∧
    ({ filling with pending := [.fillJobStart] } : State).FillLaw ∧
    ∃ t, step { filling with pending := [.fillJobStart] } = .next t := by
  refine ⟨⟨⟨by decide, ?_, ?_, by decide⟩, ⟨by decide, by decide⟩, rfl⟩, ⟨?_, ?_, ?_, by decide⟩, _, rfl⟩
  · intro i; revert i; decide
  · intro i; revert i; decide
  · intro p; cases p <;> decide
  · intro p; cases p <;> decide
  · intro p; cases p <;> decide

theorem test_witness_neverIdle : ({ awake with pending := [.ageTick] } : State).neverIdle ∧
    ({ awake with port := some writeFlight, collector := { awake.collector with ordinary := [flushA] } } : State).neverIdle := by
  refine ⟨?_, ?_⟩
  · intro _ x; cases x <;> decide
  · intro h; exact absurd h (by decide)

/-- The layout of 2.11 is sound. -/
theorem closedLayout_sound : closedLayout.Sound := by
  refine ⟨by decide, by decide, by decide, by decide, by decide, ?_, ?_⟩
  · intro sp h
    have h : sp = bandSpine := by simpa [closedLayout, eq_comm] using h
    subst h; exact ⟨by unfold Spine.wellFormed; decide, by decide⟩
  · intro g h
    have h : g = bandGuard := by simpa [closedLayout, eq_comm] using h
    subst h; exact ⟨by unfold Guard.wellFormed; decide, by decide⟩

theorem identityLayout_sound : identityLayout.Sound := by
  refine ⟨by decide, by decide, by decide, by decide, by decide, ?_, ?_⟩
  · intro sp h; simp [identityLayout] at h
  · intro g h; simp [identityLayout] at h

theorem stagingCleared_sound : Staging.cleared.Sound := by
  refine ⟨by decide, ?_, ?_, ?_, ?_⟩
  · intro h e; simp [Staging.cleared] at e
  · intro k v e
    have : (List.replicate 6 (none : Option View))[k]? = some (some v) := e
    rw [List.getElem?_replicate] at this
    split at this <;> simp at this
  · intro sp e; simp [Staging.cleared] at e
  · intro g e; simp [Staging.cleared] at e

theorem test_witness_InstalledLayoutsAreSound : ({ loading with pending := [.headFetchOffer] } : State).LayoutsInv ∧
    ∃ t, step { loading with pending := [.headFetchOffer] } = .next t := by
  refine ⟨⟨?_, ?_⟩, _, rfl⟩
  · intro i l h
    have hall : ∀ i : Fin 8, loading.layouts.slots[i].held = none ∨ loading.layouts.slots[i].held = some identityLayout ∨
        loading.layouts.slots[i].held = some closedLayout := by decide
    have h : loading.layouts.slots[i].held = some l := h
    rcases hall i with e | e | e
    · rw [e] at h; simp at h
    · rw [e] at h; cases h; exact identityLayout_sound
    · rw [e] at h; cases h; exact closedLayout_sound
  · intro l h
    have h : l = headLoad := by simpa [loading, eq_comm] using h
    subst h; exact stagingCleared_sound

theorem test_witness_MemoryStaysCanonical :
    ({ awake with mem := [(1, 2), (5, 2)], port := some writeFlight, pending := [.burstComplete] } : State).mem.wf = true ∧
      ∃ t, step { awake with mem := [(1, 2), (5, 2)], port := some writeFlight, pending := [.burstComplete] } = .next t :=
  ⟨by decide, _, rfl⟩

/-- AGE_TICK is none of the commands the frames except. -/
theorem test_witness_frames : (∃ t, exec .ageTick awake = .next t) ∧ Instr.ageTick ≠ .burstComplete ∧
    (∀ a b, Instr.ageTick ≠ .powerOnReset a b) ∧ Instr.ageTick ≠ .powerOnResetRelease ∧ Instr.ageTick ≠ .sampleTimer ∧
    (∀ k a b, Instr.ageTick ≠ .sensorRead k a b) ∧ Instr.ageTick ≠ .i2cTimeout ∧ Instr.ageTick ≠ .latchRise ∧
    Instr.ageTick ≠ .passSegmentPlace ∧ (∀ k a b d, Instr.ageTick ≠ .setMap k a b d) ∧
    (∀ k a b d e f g h i j, Instr.ageTick ≠ .setTracker k a b d e f g h i j) ∧ Instr.ageTick ≠ .frameStart ∧
    Instr.ageTick ≠ .scanStopped ∧ (∀ k a b d e f, Instr.ageTick ≠ .setPath k a b d e f) ∧
    (∀ k a b d, Instr.ageTick ≠ .bind k a b d) ∧ (∀ k a, Instr.ageTick ≠ .unbind k a) :=
  ⟨⟨_, rfl⟩, nofun, nofun, nofun, nofun, nofun, nofun, nofun, nofun, nofun, nofun, nofun, nofun, nofun, nofun, nofun⟩

/-- A swap whose select has moved, scan stopped, and the posture served by the plane that becomes IDLE. -/
def movedBack : State :=
  { moved with
    frame := { moved.frame with scanStopped := true }
    tracker := { moved.tracker with settled := some .OPEN, map := ⟨none, none, some 0⟩ } }

/-- The select line moves at a blank start with the drain complete, and while scan is stopped: for the swap that is due, and for the
one that the re-evaluation after it arms. -/
theorem test_witness_SelectMovesOnlyForACompleteDrain :
    armed.PlaneInv ∧
      (∃ t, exec .blankStart { armed with pins := { armed.pins with frameSync := true } } = .next t ∧
        t.planes.select ≠ armed.planes.select) ∧
      (∃ t, exec .scanStopped armed = .next t ∧ t.planes.select ≠ armed.planes.select ∧ t.frame.scanStopped = true) ∧
      (let u : State := { armed with frame := { armed.frame with scanStopped := true } }
       u.switchLaw ∧ u.conclude.planes.select ≠ u.planes.select ∧ u.conclude.planes.select = .B) ∧
      movedBack.switchLaw ∧ movedBack.conclude.planes.select ≠ movedBack.planes.select ∧ movedBack.conclude.planes.select = .A := by
  refine ⟨⟨⟨by decide, ?_, ?_, by decide⟩, ⟨by decide, by decide⟩, ⟨by decide, by decide, by decide⟩⟩,
    ⟨_, rfl, by decide⟩, ⟨_, rfl, by decide, by decide⟩, ⟨⟨by decide, by decide, by decide⟩, by decide, by decide⟩,
    ⟨by decide, by decide, by decide⟩, by decide, by decide⟩
  · intro i; revert i; decide
  · intro i; revert i; decide

theorem test_witness_EndOfStep : ({ awake with port := some writeFlight } : State).port.isSome = true ∧
    ({ awake with port := some writeFlight } : State).swapDue = none ∧ ({ awake with port := some writeFlight } : State).waitingInsert = none ∧
    movedBack.swapDue = some { armRecord with selectMoved := true } ∧
    ({ armed with frame := { armed.frame with scanStopped := true } } : State).swapDue = some armRecord := by decide

theorem test_witness_PowerOnReset : ({ awake with port := some writeFlight } : State).port = some writeFlight ∧
    writeFlight.payload = .write [solid 7] ∧ (∀ beats, (readFlight .fetch).payload ≠ .write beats) :=
  ⟨rfl, rfl, nofun⟩

/-- Both releases, with the latch line low and high, posture CLOSED and not. -/
theorem test_witness_ResetReleases : State.reset.pins.powerOnReset = true ∧ State.reset.pins.closedLatch = false ∧
    ({ State.reset with pins := { State.reset.pins with closedLatch := true, linkReset := true } } : State).pins.closedLatch = true ∧
    State.reset.tracker.settled ≠ some .CLOSED ∧
    ({ awake with pins := { awake.pins with linkReset := true } } : State).pins.linkReset = true ∧ awake.pins.powerOnReset = false := by
  decide

theorem test_witness_LinkReset : awake.pins.linkReset = false ∧ awake.pins.powerOnReset = false ∧ loading.layouts.load = some headLoad ∧
    armed.planes.switch = .armed armRecord ∧ armRecord.selectMoved = false ∧ moved.planes.switch = .armed { armRecord with selectMoved := true } ∧
    moved.pins.linkReset = false ∧ moved.frame.scanStopped = false ∧
    (moved.planes.entry .A).binding = some 0 := by decide

/-- SETTLE with the sleep request low and high, a DUE record and an IDLE port. -/
def settling : State :=
  { awake with
    front := { awake.front with link := .settle, settleTimer := some 1000 }
    status := { awake.status with write := .due } }

def drainingLink : State := { awake with front := { awake.front with link := .sleepDrain } }

theorem test_witness_SettleAndDrain : settling.front.link = .settle ∧ settling.front.settleTimer.isSome = true ∧
    settling.pins.sleepRequest = false ∧ settling.status.write = .due ∧ settling.port = none ∧ settling.layouts.load = none ∧
    settling.fill.burst = none ∧
    ({ settling with pins := { settling.pins with sleepRequest := true } } : State).pins.sleepRequest = true ∧
    drainingLink.front.link = .sleepDrain ∧
    (drainingLink.inbound = [] ∧ drainingLink.router = none ∧ drainingLink.outQueue = [] ∧ drainingLink.responses = [] ∧
      drainingLink.collector.table = [] ∧ drainingLink.collector.ordinary = [] ∧ drainingLink.collector.priority = [] ∧
      drainingLink.fill.burst = none ∧ drainingLink.layouts.load = none ∧ drainingLink.status.write = .quiet ∧ drainingLink.port = none) ∧
    ({ drainingLink with port := some writeFlight } : State).port ≠ none := by decide

theorem test_witness_SleepRequest : awake.pins.sleepRequest = false ∧ awake.front.link = .awake ∧ settling.front.link ≠ .awake ∧
    ({ drainingLink with pins := { awake.pins with sleepRequest := true } } : State).front.link = .sleepDrain ∧
    ({ drainingLink with front := { awake.front with link := .asleep } } : State).front.link = .asleep ∧
    (({ awake.collector with table := [entryA] } : Collector).table.map (·.id)).Nodup ∧
    entryA ∈ ({ awake.collector with table := [entryA], ordinary := List.replicate 16 flushA } : Collector).table := by decide

/-- Ready just below the mark, and not at it. -/
theorem test_witness_Accept : (writeAt 0 [solid 1]).wf = true ∧
    ({ awake with inbound := List.replicate 23 (writeAt 0 [solid 1]) } : State).inbound.length < awake.front.highWater ∧
    ¬({ awake with inbound := List.replicate 24 (writeAt 0 [solid 1]) } : State).inbound.length < awake.front.highWater := by decide

/-- A request inside one region, and one across the end of aperture B. -/
theorem test_witness_Pieces : (writeAt 0 [solid 1]).wf = true ∧
    piecesOf 0 (writeAt 0x3FFFFF [solid 1, solid 2]) =
      [{ region := .aperture .B, addr := 0x3FFFFF0, payload := .write [solid 1], first := 0 },
        { region := .descriptor, addr := 0x4000000, payload := .write [solid 2], first := 1 }] := by decide

theorem test_witness_RouterTake :
    (let s : State := { awake with inbound := [writeAt 0x400100 [solid 1]] }
     s.router = none ∧ (piecesOf s.fb (writeAt 0x400100 [solid 1])).map (·.region) = [.descriptor] ∧
      (writeAt 0x400100 [solid 1]).payload.isWrite = true) ∧
    (readAt 0x400100 [allEnables]).payload.isWrite = false ∧
    (piecesOf 0 (writeAt 0x200000 [solid 1])).map (·.region) = [.aperture .B] ∧ awake.boundLayout .B = none ∧
    0 < (([solid 1].flatMap Quad.toList).filter laneFilled).length ∧
    (([Quad.replicate noLane].flatMap Quad.toList).filter laneFilled).length = 0 := by decide

/-- A write and a read of a bound plane: lanes in view, in padding and outside; a plan with and without a write held for it. -/
theorem test_witness_RouterTakesAperture :
    (piecesOf 0 (writeAt 0x200000 [solid 1])).map (·.region) = [.aperture .B] ∧
      (piecesOf 0 (readAt 0x200000 [allEnables])).map (·.payload) = [.read [allEnables]] ∧ bound.boundLayout .B = some closedLayout ∧
      (readPlan (some closedLayout) 0x2000000 0 [allEnables]).1.length = 1 ∧
      (readPlan (some closedLayout) 0x2000000 17280000 [allEnables]).1 = [] ∧
      ({ bound.collector with table := [{ entryA with key := { plane := .B, beat := 0x2000000 } }] } : Collector).heldFor
          [{ plane := .B, beat := 0x2000000 }] ≠ [] ∧
      bound.collector.heldFor [{ plane := .B, beat := 0x2000000 }] = [] := by decide

theorem test_witness_LaneSteps : laneFilled noLane = false ∧ laneFilled (fullLaneOf 1) = true ∧
    (match outcomeOf (some closedLayout) 15552000 with | .inView v _ _ => v.rotation | _ => .r0) = .r90 ∧
    (match outcomeOf (some closedLayout) 7776000 with | .inView v _ _ => v.rotation | _ => .r90) = .r180 ∧
    (laneSteps (some closedLayout) (lanesFrom 0 [solid 1])).length = 1 := by decide

def passHold : RouterHold :=
  { request := writeAt 0x400100 [solid 1],
    pieces := [{ region := .descriptor, addr := 0x4001000, payload := .write [solid 1], first := 0 }], response := none }

def mailboxHold : RouterHold :=
  { request := { beatAddress := 0x400000, payload := .write ((List.replicate 4 blankData).map DataBeat.masked) },
    pieces := [{ region := .descriptor, addr := 0x4000000, payload := .write ((List.replicate 4 blankData).map DataBeat.masked), first := 0 }],
    response := none }

/-- A pass piece with an aperture piece behind it, both still to be handed on. -/
def twoPieces : RouterHold :=
  { request := writeAt 0x3FFFFF [solid 1, solid 2],
    pieces :=
      [{ region := .descriptor, addr := 0x4000000, payload := .write [solid 2], first := 1 },
        { region := .aperture .B, addr := 0x2000000, payload := .write [solid 1], first := 0 }],
    response := none }

/-- The next piece goes to the translator, which counts what it drops, or waits for its segment to be placed; the last leaves the
router free. -/
theorem test_witness_HandedOn : twoPieces.pieces.tail ≠ [] ∧ passHold.pieces.tail = [] ∧
    ({ awake with router := some twoPieces } : State).pieceHandedOn.router = none ∧
    ({ awake with router := some twoPieces } : State).pieceHandedOn.status.counters.orphan = 4 ∧
    ({ bound with router := some twoPieces } : State).pieceHandedOn.translator ≠ .idle ∧
    (∀ q, (Region.below ≠ .aperture q)) := ⟨by decide, by decide, by decide, by decide, by decide, nofun⟩

theorem test_witness_PassPiece : mailboxBytes awake.fb passHold.request = none ∧ awake.outQueue.length < 16 ∧
    mailboxHold.request.addr = awake.fb + 0x4000000 ∧ (List.replicate 4 blankData).length = 4 ∧
    (∀ q, (Region.descriptor ≠ .aperture q)) := ⟨by decide, by decide, by decide, by decide, nofun⟩

def segmentOf (n : Nat) : Segment := { id := n, kind := .straight .A, addr := 0, payload := .write [solid 1] }

def writeJob : WriteJob := { plane := .A, layout := some identityLayout, todo := [], hand := .segment 0 [solid 1] }

def planned (n : Nat) : PlanSegment := { index := n, addr := 0x100, beats := [allEnables] }

def readJob (n : Nat) : ReadJob :=
  { plane := .A, layout := some identityLayout, response := 0, first := 0, plan := (List.range n).map planned, assembly := [] }

/-- A segment in hand; a read plan of one segment and of two, with and without a write held for the next; a full output queue. -/
theorem test_witness_TranslatorPlaces : writeJob.hand = .segment 0 [solid 1] ∧ (readJob 1).plan = [planned 0] ∧
    (readJob 2).plan = [planned 0, planned 1] ∧ awake.collector.heldFor ((planned 1).keys .A) = [] ∧
    ({ awake.collector with table := [entryA] } : Collector).heldFor ((planned 1).keys .A) ≠ [] ∧
    16 ≤ ((List.range 16).map segmentOf).length := by decide

/-- R87: a key with two ordinary writes and an entry, and one place in the priority queue: the oldest write is promoted, the rest waits,
the entry PRIORITY-WAITING; the promoted write's place goes to the entry asked first. -/
theorem test_priority_request :
    let write := fun n : Nat => ({ id := n, key := keyA, data := solid 2 } : FlushWrite)
    let other : Entry := { entryA with id := 8, key := { keyA with beat := 0x200 }, flush := .ordinaryWaiting }
    let filler := (List.range 14).map fun n => ({ id := 100 + n, key := { keyA with beat := 0x300 }, data := solid 3 } : FlushWrite)
    let c : Collector :=
      { awake.collector with
        table := [entryA, other], asked := [8], ordinary := [write 6, write 7] ++ filler, priority := (filler.take 14) ++ [write 20] }
    let after := c.requestPriority [keyA]
    (c.ordinary.map (·.id) ++ c.table.map (·.id)).Nodup ∧ c.asked.Nodup ∧
      after.priority.map (·.id) = c.priority.map (·.id) ++ [6] ∧ after.requests = [{ key := keyA, moves := [7, 5] }] ∧
      after.table.map (fun e => (e.id, e.flush)) = [(5, .priorityWaiting)] ∧ after.asked = [] ∧
      after.ordinary.map (·.id) = [7] ++ filler.map (·.id) ++ [8] ∧
      (∀ id ∈ [5, 6, 7, 20], id ∈ c.heldFor [keyA]) ∧ 8 ∉ c.heldFor [keyA] := by decide

def entryAt (n : Nat) (f : FlushState) : Entry :=
  { id := n, key := { plane := .A, beat := 0x1000 + 16 * n }, data := solid 0, age := 0, flush := f }

/-- A table of 256 entries with the oldest in each flush state, room in the ordinary queue and none. -/
theorem test_witness_Inserts :
    ({ awake.collector with table := [entryA] } : Collector).entryFor insertA.key = some entryA ∧
      awake.collector.entryFor insertA.key = none ∧
      ({ awake.collector with table := entryAt 0 .held :: (List.range 255).map fun n => entryAt (n + 1) .held } : Collector).table.length = 256 ∧
      (∀ x ∈ (List.range 255).map fun n => entryAt (n + 1) .held, x.id ≠ (entryAt 0 .held).id) ∧
      (∀ x ∈ entryAt 0 .held :: (List.range 255).map fun n => entryAt (n + 1) .held, x.id ≠ 900) ∧
      (entryAt 0 .ordinaryWaiting).flush ≠ .held ∧ 16 ≤ (List.replicate 16 flushA).length := by
  refine ⟨by decide, by decide, by simp, ?_, ?_, by decide, by decide⟩
  · intro x hx
    obtain ⟨n, -, rfl⟩ := List.mem_map.1 hx
    simp [entryAt]
  · intro x hx
    rcases List.mem_cons.1 hx with rfl | hx
    · decide
    · obtain ⟨n, hn, rfl⟩ := List.mem_map.1 hx
      have := List.mem_range.1 hn
      simp [entryAt]; omega

/-- R81, R91: a new entry in SLEEP-DRAIN leaves at once while the ordinary queue has room, and stands as ORDINARY-WAITING when it is full. -/
theorem test_sleep_drain_insert :
    let full : Collector := { awake.collector with ordinary := List.replicate 16 flushA }
    (awake.collector.insert insertA 9 true).collector.table = [] ∧
      (awake.collector.insert insertA 9 true).collector.ordinary.map (·.id) = [9] ∧
      (full.insert insertA 9 true).collector.table.map (fun e => (e.id, e.flush)) = [(9, .ordinaryWaiting)] ∧
      (full.insert insertA 9 true).collector.asked = [9] ∧ (full.insert insertA 9 true).collector.ordinary = full.ordinary := by decide

/-- An insert that waits, with room in the table and without. -/
theorem test_witness_WaitingInsert :
    let hand : Hand := .insert insertA true
    ({ writeJob with hand := hand } : WriteJob).hand = .insert insertA true ∧ awake.collector.table.length < 256 ∧
      256 ≤ ((List.range 256).map fun n => entryAt n .ordinaryWaiting).length ∧ awake.waitingInsert = none := by
  refine ⟨by decide, by decide, by simp, by decide⟩

/-- Taken where the key stands or there is room; turned away by a full table. -/
theorem test_witness_CollectorInsert :
    (inserting.collector.insert insertA inserting.nextId false).taken = true ∧
      (({ awake.collector with table := (List.range 256).map fun n => entryAt n .ordinaryWaiting } : Collector).insert insertA 900 false).taken =
        false := by
  refine ⟨by decide, ?_⟩
  decide +kernel

theorem test_witness_FinishedBurst : ({ awake with port := some writeFlight } : State).port = some writeFlight ∧
    (readFlight .fetch).payload = .read [allEnables, allEnables] ∧ (readFlight .fetch).moved ≠ 2 ∧
    ({ readFlight .fetch with moved := 2 } : Flight).moved = 2 ∧
    writeFlight.addr + 16 * 0 + 4 * 3 + 3 < 4294967296 ∧ (writeFlight.addr + 16 ≤ 0x110 ∨ 0x110 < writeFlight.addr) := by decide

/-- A written segment that clears the indication and the drain mark; a flush a held read waits for, alone and with another. -/
theorem test_witness_WrittenBurst : writeFlight.origin = .path 0 (.pass none) ∧ writeFlight.payload.isWrite = true ∧
    draining.planes.switch = .armed { armRecord with pathWaiting := [0] } ∧ draining.frame.scanStopped = false ∧
    ({ writeFlight with origin := .ordinary 6 keyA } : Flight).origin = .ordinary 6 keyA ∧
    [6].filter (· ≠ 6) = [] ∧ [6, 7].filter (· ≠ 6) ≠ [] ∧ (readJob 1).plan = [planned 0] := by decide

def hostFill : FillJob :=
  { hostJob .B { x := 1, y := 2, width := 40, height := 1 } ⟨1, 2, 3, 4⟩ with cursor := some ⟨0, 2, 0⟩ }

def fillBurst (n : Nat) : FillBurst := { addr := 0, beats := List.replicate n (solid 0), granted := true, cancelled := false }

/-- A burst of a cancelled job, a burst after which the job has beats left, and one after which it has none. -/
theorem test_witness_WrittenFill : ({ fillBurst 1 with cancelled := true } : FillBurst).cancelled = true ∧
    (fillBurst 1).cancelled = false ∧ hostFill.cursor = some ⟨0, 2, 0⟩ ∧
    cursorFrom hostFill.rects hostFill.holes ⟨0, 2, 0⟩ (0 + (fillBurst 5).beats.length) = some ⟨0, 2, 5⟩ ∧
    cursorFrom hostFill.rects hostFill.holes ⟨0, 2, 0⟩ (0 + (fillBurst 11).beats.length) = none := by decide

/-- R147, R149: UNBIND while a burst of the plane flies leaves the burst in hand; a pause asked then waits until it has been written. -/
theorem test_pause_waits_for_a_cancelled_burst :
    let s : State := { bound with fill := { bound.fill with jobs := [hostFill], burst := some (fillBurst 1) } }
    let t := (s.cancelJobs .B).askPause
    t.fill.jobs = [] ∧ t.fill.burst = some { fillBurst 1 with cancelled := true } ∧ t.fill.paused = false ∧ t.fill.pauseAsked = true ∧
      t.fillWritten.fill = { jobs := [], burst := none, paused := true, pauseAsked := false } := by decide

/-- R147, R148, R151: a reset leaves a granted fill burst in the engine's hand, and its completion empties the hand and moves no job. -/
theorem test_granted_burst_stays_in_hand :
    let s : State :=
      { bound with
        fill := { bound.fill with jobs := [hostFill], burst := some (fillBurst 1) }
        port := some { writeFlight with origin := .fill } }
    (match exec .linkReset s with
      | .next t =>
        decide (t.fill = { jobs := [], burst := some { fillBurst 1 with cancelled := true }, paused := false, pauseAsked := false }) &&
          (match exec .burstComplete t with
            | .next u => decide (u.fill = { t.fill with burst := none }) && decide (u.port = none)
            | _ => false)
      | _ => false) = true := by decide

def bytesBeat (l : List Byte) : DataBeat := beatAt l 0

/-- A HEAD that goes on, one that fails, and the last record of a chain that installs. -/
theorem test_witness_ChainFetch :
    (checkRecord { headLoad with data := [bytesBeat [1, 0, 0, 0, 2, 0, 0x20, 4, 1, 0x0C, 3], blankData] }
        (beatsBytes [bytesBeat [1, 0, 0, 0, 2, 0, 0x20, 4, 1, 0x0C, 3], blankData])).2 = .fetch .view 0x420 ∧
      (checkRecord headLoad (beatsBytes [blankData, blankData])).2 = .fail .badRecord ∧
      (∃ l, (checkRecord
        { headLoad with
          kind := .view
          staging := { Staging.cleared with head := some { tag := 7, background := Quad.replicate 0, declared := 1 } } }
        [2, 0, 0, 0, 0, 0, 0, 0, 0, 0, 0, 0, 0, 0, 0, 0, 4, 0, 4, 0, 16, 0, 0, 0, 0, 0, 0, 0, 0, 0, 0, 0]).2 = .install l) ∧
      headLoad.phase = .waiting ∧ loading.mailboxOutstanding = none ∧ loading.port = none ∧ loading.status.write = .quiet ∧
      loading.swapDue = none ∧ loading.waitingInsert = none ∧ headLoad.kind = .head :=
  ⟨by decide, by decide, ⟨_, rfl⟩, by decide, by decide, by decide, by decide, by decide, by decide, by decide⟩

/-- Beats of a chain fetch, of the oldest pass read, and of no one. -/
theorem test_witness_ReturnedBeat : (readFlight .fetch).moved < 2 ∧
    (readFlight (.path 4 (.pass (some (9, 0))))).origin = .path 4 (.pass (some (9, 0))) ∧
    ({ id := 9, beats := [some blankData, none], sent := 1 } : Response).sent = 0 + (readFlight .fetch).moved ∧
    ({ readFlight .fetch with wanted := false } : Flight).wanted = false := by decide

/-- A translated read's beat, its lanes awaited and filled; a response list that can send and one that waits. -/
theorem test_witness_TranslatedBeat :
    let waits : Quad LaneSource := Quad.replicate (.awaits 0 1 0 (Quad.replicate true))
    (readFlight (.path 4 (.translated 0))).origin = .path 4 (.translated 0) ∧ assembledBeat waits = none ∧
      assembledBeat (waits.map (LaneSource.fill 0 1 blankData)) = some blankData ∧
      ({ id := 9, beats := [some blankData, none], sent := 0 } : Response).beats.drop 0 = [blankData].map some ++ [none] ∧
      ({ id := 9, beats := [some blankData], sent := 0 } : Response).beats.drop 0 = [blankData].map some ++ [] := by decide

/-- Chain records at the limits of their checks, and links. -/
theorem test_witness_ChainChecks :
    byteAt [1, 0, 0, 0, 0, 0, 0, 0, 0, 0, 6] 10 = 6 ∧ ¬byteAt [1, 0, 0, 0, 0, 0, 0, 0, 0, 0, 7] 10 ≤ 6 ∧
      (checkFields .view Staging.cleared
        [2, 0, 0, 0, 0, 0, 0, 0, 5, 0, 90, 0, 0, 0, 0, 0, 4, 0, 4, 0, 16, 0, 0, 0, 0x5C, 9, 4, 7]).isOk = true ∧
      (checkFields .view Staging.cleared
        [2, 0, 0, 0, 0, 0, 0, 0, 5, 0, 90, 0, 0, 0, 0, 0, 4, 0, 4, 0, 16, 0, 0, 0, 0x5D, 9, 4, 7]).isOk = false ∧
      (checkFields .spine Staging.cleared [3, 0, 0, 0, 0, 0, 0, 0, 0, 0, 8, 0, 2]).isOk = true ∧
      (checkFields .spine Staging.cleared [3, 0, 0, 0, 0, 0, 0, 0, 0, 0, 8, 0, 1]).isOk = false ∧
      (checkFields .guard Staging.cleared
        [4, 0, 0, 0, 0, 0, 0, 0, 0, 0, 0, 0, 4, 1, 0, 0, 0, 0, 0, 0, 1, 0, 1, 0]).isOk = true ∧
      (checkFields .guard Staging.cleared [4, 0, 0, 0, 0, 0, 0, 0, 0, 0, 0, 0, 8, 1, 0, 0, 0, 0, 0, 0, 1, 0, 1, 0]).isOk = false ∧
      checkLink Staging.cleared 15 [2, 0, 0, 0, 2, 0, 0xE0, 0xFF] = .fetch .view 0xFFE0 ∧
      checkLink Staging.cleared 16 [2, 0, 0, 0, 2, 0, 0xE0, 0xFF] = .fail .chainLong ∧
      checkLink Staging.cleared 16 [2, 0, 0, 0, 4, 0, 0xE0, 0xFF] = .fail .chainRange ∧
      checkLink Staging.cleared 1 [2, 0, 0, 0, 1] = .fail .badRecord ∧ checkLink Staging.cleared 1 [2, 0, 0, 0, 5] = .fail .badRecord := by
  decide

/-- Every source can be the one granted. -/
theorem test_witness_ChoicePoint :
    ({ awake with status := { awake.status with write := .offered } } : State).choicePoint.port.map (·.origin) = some .record ∧
      ({ loading with layouts := { loading.layouts with load := some { headLoad with phase := .offered } } } : State).choicePoint.port.map
          (·.origin) = some .fetch ∧
      ({ awake with collector := { awake.collector with priority := [flushA] } } : State).choicePoint.port.map (·.origin) =
        some (.priority 6 keyA) ∧
      ({ awake with collector := { awake.collector with ordinary := [flushA] } } : State).choicePoint.port.map (·.origin) =
        some (.ordinary 6 keyA) ∧
      ({ awake with outQueue := [segmentOf 1] } : State).choicePoint.port.map (·.origin) = some (.path 1 (.straight .A)) ∧
      ({ awake with fill := { awake.fill with burst := some { fillBurst 1 with granted := false } } } : State).choicePoint.port.map
          (·.origin) = some .fill ∧
      awake.choicePoint.port = none := by decide

/-- At a completion: a source that stood before is seen, and none where none stands. -/
theorem test_witness_CompletionChoice :
    let s : State := { awake with outQueue := [segmentOf 1] }
    s.stands .path = true ∧ s.offerName .path = some 1 ∧ State.seenAtCompletion s s .path = true ∧
      State.seenAtCompletion awake awake .path = false ∧
      ({ loading with layouts := { loading.layouts with load := some { headLoad with phase := .offered } } } : State).stands .fetch = true ∧
      ({ awake with collector := { awake.collector with priority := [flushA] } } : State).collector.priority ≠ [] := by
  refine ⟨by decide, by decide, ?_, ?_, by decide, by decide⟩
  · simp [State.seenAtCompletion, State.stands, State.offerName]
  · simp [State.seenAtCompletion, State.stands, awake, State.reset]

/-- Two entries due and room for one in the ordinary queue. -/
theorem test_age_tick :
    let first := { entryAt 1 .held with age := 1 }
    let second := { entryAt 2 .held with age := 1 }
    let c : Collector := { awake.collector with table := [first, second, entryAt 3 .held], ordinary := List.replicate 15 flushA }
    c.ageTick.ordinary.length = 16 ∧ c.ageTick.asked = [2] ∧ c.ageTick.table.map (·.age) = [2, 1] := by decide

theorem test_witness_AgeTick : awake.collector.ageTimer.isSome = true ∧ State.reset.collector.ageTimer = none ∧
    (({ awake.collector with table := [entryA] } : Collector).table.map (·.id)).Nodup ∧ entryA.age = 1 := by decide

theorem test_witness_FrameTiming :
    ({ armed with pins := { armed.pins with frameSync := true } } : State).pins.frameSync = true ∧ armed.pins.powerOnReset = false ∧
      armed.drainComplete armRecord = true ∧ draining.drainComplete { armRecord with pathWaiting := [0] } = false ∧
      awake.planes.switch = .steady ∧ moved.planes.switch = .armed { armRecord with selectMoved := true } ∧
      moved.pins.frameSync = false ∧ moved.frame.scanStopped = false := by decide

theorem test_witness_ScanStop : awake.frame.scanTimer.isSome = true ∧ armed.drainComplete armRecord = true ∧
    armed.tracker.settled = none ∧ draining.planes.switch = .armed { armRecord with pathWaiting := [0] } ∧
    draining.drainComplete { armRecord with pathWaiting := [0] } = false := by decide

/-- A posture served by the SCANNED plane, by the IDLE plane, and by neither. -/
theorem test_witness_Reevaluation :
    ({ bound.tracker with settled := some .OPEN } : Tracker).settled = some .OPEN ∧
      (PostureMap.slotFor ⟨none, none, some 0⟩ .OPEN = some 0 ∧ (bound.planes.entry bound.planes.scanned).binding = some 0) ∧
      (PostureMap.slotFor ⟨none, none, some 3⟩ .OPEN = some 3 ∧ (bound.planes.entry bound.planes.idle).binding = some 3) ∧
      PostureMap.slotFor ⟨none, none, none⟩ .OPEN = none ∧ bound.tracker.settled = none ∧
      ({ armRecord with cause := .auto } : ArmRecord).cause = .auto ∧ armRecord.cause = .host ∧
      ({ armRecord with cause := .auto, selectMoved := true } : ArmRecord).selectMoved = true := by decide

/-- R111: a settled posture change, a swap done and an abandonment are each followed by a re-evaluation. -/
theorem test_reevaluation_follows :
    (match exec .latchRise { bound with tracker := { bound.tracker with map := ⟨some 3, none, none⟩ } } with
      | .next t => decide (t.planes.switch = .armed { armRecord with cause := .auto })
      | _ => false) = true ∧
    (match exec .frameStart { moved with tracker := { moved.tracker with settled := some .OPEN } } with
      | .next t => t.flag .swapDone && t.flag .unserved && decide (t.planes.scanned = .B) && decide (t.fill.jobs = [newJob .B .guard])
      | _ => false) = true ∧
    (match exec .swapLimit { draining with tracker := { draining.tracker with settled := some .OPEN, map := ⟨none, none, some 0⟩ } } with
      | .next t => t.flag .swapAbandoned && !t.flag .unserved && decide (t.planes.switch = .steady)
      | _ => false) = true := by decide

/-- A guard request accepted, merged, refused, and none made. -/
theorem test_witness_GuardRequest :
    let onB : State := { bound with planes := { bound.planes with scanned := .B, select := .B } }
    onB.boundLayout onB.planes.scanned = some closedLayout ∧ closedLayout.guard = some bandGuard ∧ bandGuard.onOpen = true ∧
      bandGuard.onClosed = false ∧ onB.fill.jobs.length < 4 ∧
      (onB.guardFor .OPEN).fill.jobs = [newJob .B .guard] ∧ ((onB.guardFor .OPEN).guardFor .OPEN).fill.jobs = [newJob .B .guard] ∧
      (onB.guardFor .CLOSED).fill.jobs = [] ∧
      ({ onB with fill := { onB.fill with jobs := List.replicate 4 (newJob .B .host) } } : State).guardFor .OPEN =
        ({ onB with fill := { onB.fill with jobs := List.replicate 4 (newJob .B .host) } } : State).report .guardDropped := by decide

theorem test_witness_Samples : awake.tracker.sampleTimer.isSome = true ∧
    ({ awake.tracker with sample := .reading0 } : Tracker).sample = .reading0 ∧
    ({ awake.tracker with sample := .reading1 (some 4000) } : Tracker).sample = .reading1 (some 4000) ∧
    readOutcome true 0x8F 0xFF = some 4095 ∧ readOutcome true 0x7F 0xFF = none ∧
    clampReports (some 4000) 0 + clampReports (readOutcome true 0x8F 0xFF) 0 ≠ 0 ∧
    (Tracker.evaluate { Tracker.reset with sensor0 := ⟨false, 0, 1, 0⟩, dwell := 1 } false (some 1000) none).sensor0.good = true ∧
    (Tracker.evaluate { Tracker.reset with sensor0 := ⟨false, 0, 1, 0⟩, dwell := 1 } false (some 1000) none).settled = some .PARTIAL := by
  decide

theorem test_witness_ReadingsHealthAndMode : (4095 : Nat) ≤ 4095 ∧ Sensor.reset.sound = true ∧
    (⟨true, 2, 0, 100⟩ : Sensor).sound = true ∧ (⟨true, 2, 0, 100⟩ : Sensor).good = true ∧
    ((⟨true, 2, 0, 100⟩ : Sensor).update none).good = false ∧ ((⟨false, 0, 1, -100⟩ : Sensor).update (some 0)).good = true ∧
    Tracker.reset.sensor0.good = false ∧ Tracker.reset.sensor1.good = false := by decide

theorem test_witness_PairAndFusion : ((890 - 866) + (866 - 890) : Nat) ≤ Tracker.reset.agreementLimit ∧
    Tracker.reset.agreementLimit < ((961 - 900) + (900 - 961) : Nat) ∧ Tracker.reset.pair = .agree ∧
    ({ Tracker.reset with pair := .disagree } : Tracker).pair = .disagree ∧
    (let t : Tracker := { Tracker.reset with sensor0 := ⟨true, 0, 2, 0⟩, sensor1 := ⟨true, 0, 2, 0⟩ }
     (t.updateHealth (some 1000) (some 1010)).sensor0.usable (some 1000) = some 878 ∧ Sensor.reset.usable (some 1000) = none ∧
      (t.updateHealth (some 1000) none).sensor1.usable none = none ∧ (t.judge (some 1000) (some 1010)).1.pair = .agree) := by decide

theorem test_witness_CandidatesAndDwell : Tracker.reset.closedEnter < Tracker.reset.openEnter ∧
    Tracker.reset.closedExit < Tracker.reset.openEnter ∧ Tracker.reset.closedEnter < Tracker.reset.openExit ∧
    Tracker.reset.candidateOf false 150 = .CLOSED ∧ Tracker.reset.candidateOf false 151 = .PARTIAL ∧
    Tracker.reset.candidateOf false 1650 = .OPEN ∧
    ({ Tracker.reset with settled := some .CLOSED } : Tracker).candidateOf false 230 = .CLOSED ∧
    ({ Tracker.reset with settled := some .OPEN } : Tracker).candidateOf false 1570 = .OPEN ∧
    ({ Tracker.reset with candidate := some (.CLOSED, 11) } : Tracker).candidate = some (.CLOSED, 11) := by decide

theorem test_witness_LatchEdges : awake.pins.powerOnReset = false ∧ awake.pins.closedLatch = false ∧
    ({ awake with pins := { awake.pins with closedLatch := true } } : State).pins.closedLatch = true ∧ awake.swapDue = none ∧
    awake.tracker.settled ≠ some .CLOSED := by decide

/-- A HOST job of one rectangle; a BACKGROUND job of a layout whose one view is the whole panel. -/
theorem test_witness_FillJobsStart :
    (let job := hostJob .B { x := 1, y := 2, width := 40, height := 1 } ⟨1, 2, 3, 4⟩
     job.kind = .host ∧ job.cursor = none ∧ job.rects = [{ x := 1, y := 2, width := 40, height := 1 }] ∧ job.holes = [] ∧
      job.colour = some ⟨1, 2, 3, 4⟩) ∧
    awake.fill.burst = none ∧ awake.fillMayWork = true ∧
    (newJob .A .background).kind = .background ∧ (newJob .A .background).cursor = none ∧ awake.boundLayout .A = some identityLayout ∧
    identityLayout.views.map View.panelRect = [{ x := 0, y := 0, width := 2400, height := 1800 }] := by decide

/-- A GUARD job and a BACKGROUND job that have something to paint; a sweep of two rectangles with a hole. -/
theorem test_witness_Sweep :
    (newJob .B .guard).holes = [] ∧ bound.boundLayout .B = some closedLayout ∧
      firstCursor [] 0 bandGuard.rects = some ⟨0, 0, 270⟩ ∧ runLength { x := 1080, y := 0, width := 240, height := 1800 } [] 0 16 270 = 16 ∧
      firstCursor [{ x := 0, y := 0, width := 2400, height := 1799 }] 0 [{ x := 2, y := 1797, width := 2, height := 3 }] = some ⟨0, 1799, 0⟩ ∧
      (let rects : List Rect := [{ x := 2, y := 0, width := 9, height := 2 }, { x := 0, y := 5, width := 4, height := 1 }]
       let holes : List Rect := [{ x := 4, y := 0, width := 4, height := 2 }]
       cursorFrom rects holes ⟨0, 0, 0⟩ 1 = some ⟨0, 0, 2⟩ ∧ cursorFrom rects holes ⟨0, 0, 2⟩ 3 = some ⟨0, 1, 0⟩ ∧
         cursorFrom rects holes ⟨0, 1, 2⟩ 3 = some ⟨1, 5, 0⟩ ∧ cursorFrom rects holes ⟨1, 5, 0⟩ 1 = none) := by decide

/-- Records that can be taken: a slot that is free, bound and none; offsets inside and outside the range. -/
theorem test_witness_LoadAndUnload : bound.attends = true ∧ (8 : Word).toNat = 8 ∧ (7 : Word).toNat = (7 : Fin 8).val ∧
    bound.planes.b.binding = some 3 ∧ bound.planes.a.binding ≠ some 7 ∧ bound.planes.b.binding ≠ some 7 ∧
    (0x200 : Word).toNat % 32 = 0 ∧ (0xFFE0 : Word).toNat % 32 = 0 ∧ ¬((0x1E0 : Word).toNat % 32 = 0 ∧ 0x200 ≤ (0x1E0 : Word).toNat) := by
  decide

theorem test_witness_BindAndUnbind : awake.attends = true ∧ (2 : Word).toNat = 2 ∧ (1 : Word).toNat = Plane.B.number ∧
    (0 : Word).toNat = Plane.A.number ∧ (0 : Word).toNat = (0 : Fin 8).val ∧
    (∃ j ∈ filling.fill.jobs, j.plane = .B ∧ j.kind = .background) ∧ (fillBurst 1).granted = true ∧
    ({ fillBurst 1 with granted := false } : FillBurst).granted = false ∧ (newJob .A .guard).plane ≠ .B := by decide

theorem test_witness_CommitAndCancel : bound.attends = true ∧ armed.attends = true ∧ bound.planes.switch = .steady ∧
    armed.planes.switch = .armed armRecord ∧ (∀ d ∈ bound.collector.drains, d.commit ≠ bound.nextId) ∧
    ([flushA].map (·.id) ++ ([] : List FlushWrite).map (·.id) ++ [entryA].map (·.id)).Nodup := by decide

/-- R104, log 32: a straight segment in flight that is wanted is in the snapshot with the queued one, and one that is not is left out. -/
theorem test_snapshot :
    let straight : Segment := { id := 4, kind := .straight .B, addr := 0x2000000, payload := .write [solid 1] }
    let s := fun wanted : Bool =>
      ({ bound with port := some { writeFlight with origin := .path 3 (.straight .B), wanted := wanted }, outQueue := [straight] } : State)
    let waiting := fun u : State =>
      match u.planes.switch with
      | .armed r => r.pathWaiting
      | .steady => []
    waiting ((s true).arm .host) = [3, 4] ∧ waiting ((s false).arm .host) = [4] ∧
      (({ bound with port := some { writeFlight with origin := .ordinary 6 { keyA with plane := .B } } } : State).arm .auto).collector.drains =
        [{ commit := bound.nextId, unwritten := [6] }] := by decide

theorem test_witness_Fill : bound.attends = true ∧ (1 : Word).toNat = Plane.B.number ∧ (2 : Word).toNat = 2 := by decide

/-- Map words and tracker and path settings on both sides of their ranges. -/
theorem test_witness_Settings : awake.attends = true ∧ ¬((8 : Word).toNat < 8 ∨ (8 : Word).toNat = 15) ∧
    (15 : Word).toNat = mapByte none ∧ (7 : Word).toNat = mapByte (some 7) ∧
    (150 : Word).toNat < (230 : Word).toNat ∧ ¬(230 : Word).toNat < (230 : Word).toNat ∧ (1800 : Word).toNat ≤ 1800 ∧
    (0 : Word).toNat < 1 ∧ (-100 : Int) ≤ (0xFFFFFF9C : Word).toInt ∧ ¬(-100 : Int) ≤ (0xFFFFFF9B : Word).toInt ∧
    awake.attention = false ∧ ({ awake with status := { awake.status with flags := 2 } } : State).attention = true := by decide

theorem test_witness_SoftReset : loading.decoderReached = true ∧ loading.decoder.busy = true ∧ awake.planes.switch = .steady ∧
    armed.planes.switch = .armed armRecord ∧ moved.planes.switch = .armed { armRecord with selectMoved := true } ∧
    moved.tracker.settled = none ∧ ({ awake with port := some writeFlight } : State).port.isSome = true ∧ awake.port = none := by decide

/-- A wrong check word, a record while busy, a record that does not arrive, a command word that is no command. -/
theorem test_witness_RecordsAreJudged : (Instr.commit 0).wf = true ∧ controlWords (.commit 0) = some (5, 0) ∧ (0 : Word) ≠ ~~~5 ∧
    loading.decoderReached = true ∧ loading.decoder.busy = true ∧ (5 : Word) ≠ 12 ∧ State.reset.decoderReached = false ∧
    12 < (13 : Word).toNat ∧ (0 : Word).toNat = 0 ∧ awake.attends = true ∧ recordWord [5, 0, 0, 0] 0 = 5 := by decide

theorem test_witness_StatusWriter : EventFlag.latch ≠ .posture ∧ awake.flag .latch = false ∧ State.reset.flag .powerOn = true ∧
    ({ awake with status := { awake.status with write := .writing } } : State).status.write = .writing ∧ (65535 : Nat) ≤ 65535 := by decide

theorem test_witness_StatusImage : (∀ i : Fin 8, bound.layouts.slots[i].tag < 65536) ∧
    ({ filling with fill := { filling.fill with jobs := [hostFill] } } : State).fill.jobs = [hostFill] ∧ hostFill.beatsWritten < 4294967296 := by
  decide

theorem test_witness_Gain : bandSpine.covers 1080 = true ∧ bandSpine.covers 1319 = true ∧ (1319 - bandSpine.start) / 8 + 1 < bandSpine.knots.length ∧
    bandSpine.start ≤ 1319 ∧ 1319 < bandSpine.start + bandSpine.width ∧ ¬(bandSpine.start ≤ 1320 ∧ 1320 < bandSpine.start + bandSpine.width) ∧
    laneReports (some { bandSpine with knots := List.replicate 31 65535 }) 1319 ⟨some 255, none, some 255, some 255⟩ = 2 ∧
    saturates 255 16417 = true ∧ saturates 255 16416 = false ∧ gainedChannel 200 16384 = 200 := by decide

theorem test_witness_LanesLand : (∀ v ∈ closedLayout.views, ¬(v.base ≤ 17280000 ∧ 17280000 < v.base + v.sv * v.hv)) ∧
    leftView ∈ closedLayout.views ∧ leftView.base ≤ 47488 ∧ 47488 < leftView.base + leftView.sv * leftView.hv ∧
    47488 % leftView.sv < leftView.wv * 4 ∧ leftView.wellPlaced = true ∧ (1079 : Nat) < leftView.wv ∧ (1799 : Nat) < leftView.hv ∧
    (let v : View := { leftView with sv := 4336 }; v.wv * 4 ≤ 4320 % v.sv) := by decide

def placed (x : Nat) : PlacedLane := { x := x, y := 7, bytes := fullLaneOf 1 }

theorem test_witness_LanesComeInHand : [placed 4, placed 9] ≠ [] ∧ (∀ p ∈ [placed 4, placed 9], p.y = 7) ∧
    ([placed 4, placed 9].map (·.x)).Nodup ∧ laneReports none 4 (placed 4).bytes = 0 ∧
    laneReports (some { bandSpine with knots := List.replicate 31 65535 }) 1080 (fullLaneOf 255) = 3 := by decide

theorem test_witness_ReadPlan : (∀ l, (none : Option Layout) = some l → l.Sound) ∧ identityLayout.Sound ∧
    allEnables.e0 ≠ Quad.replicate false ∧ (outcomeOf (some identityLayout) 16 = .inView (identityLayout.views.getD 0 leftView) 4 0) ∧
    outcomeOf (some identityLayout) 17280000 = .outside :=
  ⟨nofun, identityLayout_sound, by decide, by decide, by decide⟩

end Sys2Proof.Tests
end

section
/-! The release of power-on reset and the power-on state, as the link side sees them (R3, R12, R15). -/

namespace Sys2Proof.Machine

/-! ### Output lines -/

/-- R5: only in AWAKE is the part ready. -/
theorem State.ready_eq_false {s : State} (h : s.front.link ≠ .awake) : s.ready = false := by
  simp [State.ready, h]

/-- 1.7: only in ASLEEP is the sleep acknowledged. -/
theorem State.sleepAcknowledge_eq_false {s : State} (h : s.front.link ≠ .asleep) : s.sleepAcknowledge = false := by
  simp [State.sleepAcknowledge, h]

/-! ### The power-on state -/

theorem exec_powerOnReset (strap1 strap0 : Bool) (s : State) :
    exec (.powerOnReset strap1 strap0) s = .next (s.powerOn strap1 strap0) := rfl

@[simp] theorem State.powerOn_pins (strap1 strap0 : Bool) (s : State) :
    (s.powerOn strap1 strap0).pins = { s.pins with powerOnReset := true } := rfl

@[simp] theorem State.powerOn_front (strap1 strap0 : Bool) (s : State) : (s.powerOn strap1 strap0).front =
    { link := .resetHold, strap1 := strap1, strap0 := strap0, settleSetting := 50, settleTimer := none, highWater := 24 } := rfl

@[simp] theorem State.powerOn_fb (strap1 strap0 : Bool) (s : State) :
    (s.powerOn strap1 strap0).fb = frameBase strap1 strap0 := by
  simp [State.fb]

/-- R23: plane A is bound to slot 0, which holds the identity layout. -/
@[simp] theorem State.powerOn_boundLayout_A (strap1 strap0 : Bool) (s : State) :
    (s.powerOn strap1 strap0).boundLayout .A = some identityLayout := rfl

/-! ### The release of power-on reset -/

/-- Of the fields that a step's end keeps, a rising latch edge changes the settled posture and its candidate alone (R129). -/
theorem State.latchRising_kept (s : State) : s.latchRising.kept = { s with tracker := s.tracker.latchClosed }.kept := by
  unfold State.latchRising
  dsimp only
  split <;> simp

@[simp] theorem State.latchRising_front (s : State) : s.latchRising.front = s.front :=
  congrArg Kept.front s.latchRising_kept

/-- R12: the release settles the link unless link reset is asserted; a high latch level leaves the front end alone. -/
theorem State.release_front (s : State) :
    s.release.front = if s.pins.linkReset then s.front else s.enterSettle.front := by
  unfold State.release
  dsimp only
  split <;> split <;> simp [State.enterSettle]

/-- While power-on reset is asserted its release takes effect, and what ends the step keeps what the release has set. -/
theorem exec_powerOnResetRelease_kept {s : State} (h : s.pins.powerOnReset = true) :
    ∃ u, exec .powerOnResetRelease s = .next u ∧ u.kept = s.release.kept := by
  have hact : act .powerOnResetRelease s = .concluded s.release := if_pos h
  rw [exec_eq_act, hact]
  exact Act.answer_kept s _

/-- The link state after the release of power-on reset. -/
theorem exec_powerOnResetRelease_link {s : State} (h : s.pins.powerOnReset = true) :
    ∃ u, exec .powerOnResetRelease s = .next u ∧
      u.front.link = if s.pins.linkReset then s.front.link else .settle := by
  obtain ⟨u, hexec, hkept⟩ := exec_powerOnResetRelease_kept h
  have hfront : u.front = s.release.front := congrArg Kept.front hkept
  refine ⟨u, hexec, ?_⟩
  rw [hfront, State.release_front]
  split <;> rfl

/-- Settles O17: the power-on state is a literal, and its release is the general one with power-on reset asserted. -/
theorem powerOnResetSetsTheLinkSide : Obligations.PowerOnResetSetsTheLinkSide := by
  intro strap1 strap0 s
  have hready : (s.powerOn strap1 strap0).ready = false := State.ready_eq_false (by simp)
  have hasleep : (s.powerOn strap1 strap0).sleepAcknowledge = false := State.sleepAcknowledge_eq_false (by simp)
  have hrelease : ∃ u, exec .powerOnResetRelease (s.powerOn strap1 strap0) = .next u ∧
      u.front.link = if s.pins.linkReset then LinkState.resetHold else LinkState.settle :=
    exec_powerOnResetRelease_link (s := s.powerOn strap1 strap0) (by simp)
  exact ⟨s.powerOn strap1 strap0, exec_powerOnReset strap1 strap0 s, s.powerOn_front strap1 strap0,
    s.powerOn_fb strap1 strap0, rfl, rfl, rfl, rfl, rfl, hready, hasleep, s.powerOn_boundLayout_A strap1 strap0, hrelease⟩

end Sys2Proof.Machine
end

section
/-! The translator's way from an aperture offset to a panel position (3.3, 3.4): windows, outcomes, mirror and rotation. -/

namespace Sys2Proof.Machine

/-! ### What the checks of a load give of a view (R33) -/

theorem View.stride_pos {v : View} (h : v.wellPlaced = true) : 0 < v.sv := by
  simp only [View.wellPlaced, Bool.and_eq_true, decide_eq_true_eq] at h
  omega

theorem View.panelRect_onPanel {v : View} (h : v.wellPlaced = true) : v.panelRect.onPanel = true := by
  simp only [View.wellPlaced, Bool.and_eq_true] at h
  exact h.2

/-! ### Windows (R37, R46) -/

theorem View.holds_iff {v : View} {o : Nat} : v.holds o = true ↔ v.base ≤ o ∧ o < v.base + v.sv * v.hv := by
  simp only [View.holds, Bool.and_eq_true, decide_eq_true_eq]
  rfl

theorem windowsMeet_comm (v w : View) : windowsMeet v w = windowsMeet w v := Bool.and_comm ..

theorem windowsMeet_of_holds {v w : View} {o : Nat} (hv : v.holds o = true) (hw : w.holds o = true) : windowsMeet v w = true := by
  simp only [View.holds, windowsMeet, Bool.and_eq_true, decide_eq_true_eq] at *
  omega

/-- R46: at most one view of an installed layout holds an offset. -/
theorem Layout.Sound.eq_of_holds {l : Layout} (hl : l.Sound) {v w : View} {o : Nat} (hv : v ∈ l.views) (hw : w ∈ l.views)
    (hvo : v.holds o = true) (hwo : w.holds o = true) : v = w := by
  by_contra hne
  have : Std.Symm fun v w : View => windowsMeet v w = false := ⟨fun v w h => (windowsMeet_comm w v).trans h⟩
  have hapart : windowsMeet v w = false := hl.windows.forall hv hw hne
  simp [windowsMeet_of_holds hvo hwo] at hapart

theorem Layout.Sound.find?_holds {l : Layout} (hl : l.Sound) {v : View} {o : Nat} (hv : v ∈ l.views) (ho : v.holds o = true) :
    l.views.find? (·.holds o) = some v := by
  cases hfind : l.views.find? (·.holds o) with
  | none => exact absurd ho (List.find?_eq_none.mp hfind v hv)
  | some w =>
    have hw : w.holds o = true := List.find?_some (p := fun w : View => w.holds o) hfind
    rw [hl.eq_of_holds (List.mem_of_find?_eq_some hfind) hv hw ho]

/-! ### The outcome of a lane (R46, R47) -/

@[simp] theorem outcomeOf_none (o : Nat) : outcomeOf none o = .noLayout := rfl

theorem outcomeOf_eq_outside {l : Layout} {o : Nat} (h : ∀ v ∈ l.views, ¬v.holds o = true) : outcomeOf (some l) o = .outside := by
  simp only [outcomeOf, List.find?_eq_none.mpr h]

/-- The window that holds the offset decides between PADDING and IN-VIEW, by the column byte. -/
theorem outcomeOf_of_holds {l : Layout} (hl : l.Sound) {v : View} {o : Nat} (hv : v ∈ l.views) (ho : v.holds o = true) :
    outcomeOf (some l) o = if v.wv * 4 ≤ (o - v.base) % v.sv then .padding
      else .inView v ((o - v.base) % v.sv / 4) ((o - v.base) / v.sv) := by
  simp only [outcomeOf, hl.find?_holds hv ho]

/-- R47: the logical row of an offset in the window is one of the view's rows. -/
theorem View.row_lt {v : View} {o : Nat} (hv : v.wellPlaced = true) (ho : v.holds o = true) : (o - v.base) / v.sv < v.hv := by
  have hwindow := View.holds_iff.mp ho
  rw [Nat.div_lt_iff_lt_mul (View.stride_pos hv), Nat.mul_comm]
  omega

/-! ### Mirror and rotation (R48) -/

theorem View.mirrored_lt {v : View} {u : Nat} (hu : u < v.wv) : v.mirrored u < v.wv := by
  unfold View.mirrored
  split <;> omega

theorem View.mirrored_inj {v : View} {u w : Nat} (hu : u < v.wv) (hw : w < v.wv) (h : v.mirrored u = v.mirrored w) : u = w := by
  unfold View.mirrored at h
  split at h <;> omega

theorem View.position_r0 {v : View} (h : v.rotation = .r0) (u row : Nat) : v.position u row = (v.mirrored u, row) := by
  simp only [View.position, h]

theorem View.position_r90 {v : View} (h : v.rotation = .r90) (u row : Nat) :
    v.position u row = (v.hv - 1 - row, v.mirrored u) := by
  simp only [View.position, h]

theorem View.position_r180 {v : View} (h : v.rotation = .r180) (u row : Nat) :
    v.position u row = (v.wv - 1 - v.mirrored u, v.hv - 1 - row) := by
  simp only [View.position, h]

theorem View.position_r270 {v : View} (h : v.rotation = .r270) (u row : Nat) :
    v.position u row = (row, v.wv - 1 - v.mirrored u) := by
  simp only [View.position, h]

/-- The view position lies inside the view's panel extents: a quarter turn exchanges both. -/
theorem View.position_lt {v : View} {u row : Nat} (hu : u < v.wv) (hrow : row < v.hv) :
    (v.position u row).1 < v.pw ∧ (v.position u row).2 < v.ph := by
  have hmirror : v.mirrored u < v.wv := View.mirrored_lt hu
  cases hr : v.rotation with
  | r0 =>
    simp only [View.position_r0 hr, View.pw, View.ph, View.turned, hr]
    exact ⟨hmirror, hrow⟩
  | r90 =>
    simp only [View.position_r90 hr, View.pw, View.ph, View.turned, hr, if_true]
    omega
  | r180 =>
    simp only [View.position_r180 hr, View.pw, View.ph, View.turned, hr, Bool.false_eq_true, if_false]
    omega
  | r270 =>
    simp only [View.position_r270 hr, View.pw, View.ph, View.turned, hr, if_true]
    omega

/-- Two lanes at one view position have one column after the mirror and one row, so they are one lane. -/
theorem View.position_inj {v : View} {u row u2 row2 : Nat} (hu : u < v.wv) (hrow : row < v.hv) (hu2 : u2 < v.wv) (hrow2 : row2 < v.hv)
    (h : v.position u2 row2 = v.position u row) : u2 = u ∧ row2 = row := by
  have hm : v.mirrored u < v.wv := View.mirrored_lt hu
  have hm2 : v.mirrored u2 < v.wv := View.mirrored_lt hu2
  have hsame : v.mirrored u2 = v.mirrored u ∧ row2 = row := by
    cases hr : v.rotation with
    | r0 => simpa [View.position_r0 hr] using h
    | r90 => simp only [View.position_r90 hr, Prod.mk.injEq] at h; omega
    | r180 => simp only [View.position_r180 hr, Prod.mk.injEq] at h; omega
    | r270 => simp only [View.position_r270 hr, Prod.mk.injEq] at h; omega
  exact ⟨View.mirrored_inj hu2 hu hsame.1, hsame.2⟩

/-! ### The panel position (R48, R49) -/

theorem View.panel_inj {v : View} {u row u2 row2 : Nat} (hu : u < v.wv) (hrow : row < v.hv) (hu2 : u2 < v.wv) (hrow2 : row2 < v.hv)
    (h : v.panel u2 row2 = v.panel u row) : u2 = u ∧ row2 = row := by
  obtain ⟨hx, hy⟩ := Prod.mk.inj h
  exact View.position_inj hu hrow hu2 hrow2 (Prod.ext (Nat.add_left_cancel hx) (Nat.add_left_cancel hy))

theorem View.panelRect_covers_panel {v : View} {u row : Nat} (hu : u < v.wv) (hrow : row < v.hv) :
    v.panelRect.covers (v.panel u row).1 (v.panel u row).2 = true := by
  obtain ⟨hx, hy⟩ := View.position_lt hu hrow
  simp [Rect.covers, View.panelRect, View.panel, hx, hy]

theorem Rect.lt_of_covers {r : Rect} {x y : Nat} (hr : r.onPanel = true) (h : r.covers x y = true) : x < 2400 ∧ y < 1800 := by
  simp only [Rect.onPanel, Rect.covers, Bool.and_eq_true, decide_eq_true_eq] at hr h
  simp only [Config.panelColumns, Config.panelRows] at hr
  omega

/-- R49: the lane at its place in its beat is the pixel at its panel address. -/
theorem panelBeat_add_lane (base x y : Nat) : panelBeat base x y + 4 * (x % 4) = base + y * 9600 + x * 4 := by
  simp only [panelBeat, Config.rowPitch]
  omega

/-- Settles O58: the one window that holds an offset decides its outcome, and each rotation carries the logical rows and columns one to
one into the panel rectangle. -/
theorem lanesLandOnThePanel : Obligations.LanesLandOnThePanel := by
  refine ⟨outcomeOf_none, ?outside, ?held, ?landing⟩
  case outside =>
    intro l o hnone
    exact outcomeOf_eq_outside fun v hv ho => hnone v hv (View.holds_iff.mp ho)
  case held =>
    intro l v o hl hv hlow hhigh
    have hholds : v.holds o = true := View.holds_iff.mpr ⟨hlow, hhigh⟩
    have hrow : (o - v.base) / v.sv < v.hv := View.row_lt (hl.placed v hv).2 hholds
    rw [outcomeOf_of_holds hl hv hholds]
    exact ⟨fun hpad => if_pos hpad, fun hin => ⟨if_neg (Nat.not_le.mpr hin), by omega, hrow⟩⟩
  case landing =>
    intro v u row hv hu hrow
    have hcovers : v.panelRect.covers (v.panel u row).1 (v.panel u row).2 = true := View.panelRect_covers_panel hu hrow
    obtain ⟨hx, hy⟩ := Rect.lt_of_covers (View.panelRect_onPanel hv) hcovers
    refine ⟨?r0, ?r90, ?r180, ?r270, hcovers, hx, hy, ?address, ?apart⟩
    case r0 => intro hr; simp only [View.panel, View.position_r0 hr, View.mirrored]
    case r90 => intro hr; simp only [View.panel, View.position_r90 hr, View.mirrored]
    case r180 => intro hr; simp only [View.panel, View.position_r180 hr, View.mirrored]
    case r270 => intro hr; simp only [View.panel, View.position_r270 hr, View.mirrored]
    case address => exact fun base => ⟨panelBeat_add_lane base _ _, by omega⟩
    case apart => exact fun u2 row2 hu2 hrow2 hsame => View.panel_inj hu hrow hu2 hrow2 hsame

end Sys2Proof.Machine
end

section
/-! The crease gain unit (04_crease_gain.md): the column gain between two knots, and what a gain does to a channel and to a pixel. -/

namespace Sys2Proof.Machine

/-! ### Between two knots (R67) -/

/-- The gain `f` columns after the knot `low`, on the way to the knot `high` 8 columns after it. -/
def betweenKnots (low high f : Int) : Int := low + ((high - low) * f + 4) / 8

/-- R67: the gain is the same reached from the knot above, as 8 columns make the whole difference of the knots. -/
theorem betweenKnots_from_above (low high f : Int) :
    betweenKnots low high f = high + ((low - high) * (8 - f) + 4) / 8 := by
  have hrest : (low - high) * (8 - f) + 4 = (high - low) * f + 4 + (low - high) * 8 := by ring
  rw [hrest, Int.add_mul_ediv_right _ _ (by decide), betweenKnots]
  ring

/-- Towards a higher knot the part of the difference that is added lies between 0 and the difference. -/
theorem betweenKnots_mem_of_le {low high f : Int} (h : low ≤ high) (hf : 0 ≤ f) (hf8 : f < 8) :
    low ≤ betweenKnots low high f ∧ betweenKnots low high f ≤ high := by
  have hlower : 0 ≤ (high - low) * f := Int.mul_nonneg (by omega) hf
  have hupper : (high - low) * f ≤ (high - low) * 7 := Int.mul_le_mul_of_nonneg_left (by omega) (by omega)
  unfold betweenKnots
  omega

/-- Towards a lower knot that part is negative, and the floor takes it no further than the difference. -/
theorem betweenKnots_mem_of_ge {low high f : Int} (h : high ≤ low) (hf : 0 ≤ f) (hf8 : f < 8) :
    high ≤ betweenKnots low high f ∧ betweenKnots low high f ≤ low := by
  have hupper : (high - low) * f ≤ 0 := Int.mul_nonpos_of_nonpos_of_nonneg (by omega) hf
  have hlower : (high - low) * 7 ≤ (high - low) * f := Int.mul_le_mul_of_nonpos_left (by omega) (by omega)
  unfold betweenKnots
  omega

theorem min_le_betweenKnots_le_max {low high f : Int} (hf : 0 ≤ f) (hf8 : f < 8) :
    min low high ≤ betweenKnots low high f ∧ betweenKnots low high f ≤ max low high := by
  rcases Int.le_total low high with h | h
  · simpa only [min_eq_left h, max_eq_right h] using betweenKnots_mem_of_le h hf hf8
  · simpa only [min_eq_right h, max_eq_left h] using betweenKnots_mem_of_ge h hf hf8

theorem betweenKnots_zero (low high : Int) : betweenKnots low high 0 = low := by simp [betweenKnots]

theorem betweenKnots_self (k f : Int) : betweenKnots k k f = k := by simp [betweenKnots]

theorem betweenKnots_nonneg {low high : Nat} {f : Int} (hf : 0 ≤ f) (hf8 : f < 8) : 0 ≤ betweenKnots low high f :=
  (le_min (Int.natCast_nonneg low) (Int.natCast_nonneg high)).trans (min_le_betweenKnots_le_max hf hf8).1

/-- Knots are not negative, so neither is a gain between them, and the column gain is that gain unaltered. -/
theorem Spine.columnGain_eq_betweenKnots (sp : Spine) (x : Nat) :
    (sp.columnGain x : Int) =
      betweenKnots (sp.knots.getD ((x - sp.start) / 8) 0 : Nat) (sp.knots.getD ((x - sp.start) / 8 + 1) 0 : Nat)
        ((x - sp.start) % 8 : Nat) := by
  exact Int.toNat_of_nonneg (betweenKnots_nonneg (by omega) (by omega))

/-! ### One channel (R68)

The gain 16384 stands for the factor 1; `_one` in a name is that gain. -/

theorem scaledChannel_mono {c d g k : Nat} (hc : c ≤ d) (hg : g ≤ k) : scaledChannel c g ≤ scaledChannel d k :=
  Nat.div_le_div_right (Nat.add_le_add_right (Nat.mul_le_mul hc hg) _)

theorem scaledChannel_one (c : Nat) : scaledChannel c 16384 = c := by
  unfold scaledChannel
  omega

theorem saturates_iff {c : Byte} {g : Nat} : saturates c g = true ↔ 255 < scaledChannel c.toNat g := decide_eq_true_iff

theorem saturates_eq_false_iff {c : Byte} {g : Nat} : saturates c g = false ↔ scaledChannel c.toNat g ≤ 255 := by
  rw [Bool.eq_false_iff, Ne, saturates_iff, Nat.not_lt]

theorem gainedChannel_toNat (c : Byte) (g : Nat) : (gainedChannel c g).toNat = min 255 (scaledChannel c.toNat g) :=
  (BitVec.toNat_ofNat ..).trans (Nat.mod_eq_of_lt (by omega))

theorem gainedChannel_of_saturates {c : Byte} {g : Nat} (h : saturates c g = true) : gainedChannel c g = 255 := by
  rw [gainedChannel, Nat.min_eq_left (Nat.le_of_lt (saturates_iff.mp h))]
  rfl

theorem gainedChannel_toNat_of_not_saturates {c : Byte} {g : Nat} (h : saturates c g = false) :
    (gainedChannel c g).toNat = scaledChannel c.toNat g := by
  rw [gainedChannel_toNat, Nat.min_eq_right (saturates_eq_false_iff.mp h)]

theorem gainedChannel_zero_left (g : Nat) : gainedChannel 0 g = 0 := by simp [gainedChannel, scaledChannel]

theorem gainedChannel_zero_right (c : Byte) : gainedChannel c 0 = 0 := by simp [gainedChannel, scaledChannel]

/-- The largest gain at which no channel saturates is 16416, since white is the first to do so. -/
theorem saturates_eq_false_of_le {c : Byte} {g : Nat} (h : g ≤ 16416) : saturates c g = false :=
  saturates_eq_false_iff.mpr (scaledChannel_mono (Nat.le_of_lt_succ c.isLt) h)

theorem saturates_white_of_le {g : Nat} (h : 16417 ≤ g) : saturates 255 g = true :=
  saturates_iff.mpr (Nat.lt_of_lt_of_le (by decide) (scaledChannel_mono (Nat.le_refl 255) h))

theorem gainedChannel_one (c : Byte) : gainedChannel c 16384 = c := by
  refine BitVec.eq_of_toNat_eq ?_
  rw [gainedChannel_toNat_of_not_saturates (saturates_eq_false_of_le (by decide)), scaledChannel_one]

theorem gainedChannel_le_of_le_one {c : Byte} {g : Nat} (h : g ≤ 16384) : (gainedChannel c g).toNat ≤ c.toNat :=
  calc (gainedChannel c g).toNat = scaledChannel c.toNat g :=
        gainedChannel_toNat_of_not_saturates (saturates_eq_false_of_le (by omega))
    _ ≤ scaledChannel c.toNat 16384 := scaledChannel_mono (Nat.le_refl _) h
    _ = c.toNat := scaledChannel_one _

theorem le_gainedChannel_of_one_le {c : Byte} {g : Nat} (h : 16384 ≤ g) : c.toNat ≤ (gainedChannel c g).toNat := by
  have hscaled : c.toNat ≤ scaledChannel c.toNat g :=
    (scaledChannel_one c.toNat).symm.le.trans (scaledChannel_mono (Nat.le_refl _) h)
  rw [gainedChannel_toNat]
  exact Nat.le_min.mpr ⟨Nat.le_of_lt_succ c.isLt, hscaled⟩

theorem gainedChannel_white_of_one_le {g : Nat} (h : 16384 ≤ g) : gainedChannel 255 g = 255 :=
  BitVec.eq_of_toNat_eq
    (Nat.le_antisymm (Nat.le_of_lt_succ (gainedChannel 255 g).isLt) (le_gainedChannel_of_one_le (c := 255) h))

/-! ### One pixel (R66, R69, R70) -/

theorem Spine.covers_iff {sp : Spine} {x : Nat} : sp.covers x = true ↔ sp.start ≤ x ∧ x < sp.start + sp.width := by
  simp only [Spine.covers, Bool.and_eq_true, decide_eq_true_eq]

@[simp] theorem gainLane_none (x : Nat) (l : MaskedLane) : gainLane none x l = l := rfl

@[simp] theorem laneReports_none (x : Nat) (l : MaskedLane) : laneReports none x l = 0 := rfl

theorem gainLane_of_covers {sp : Spine} {x : Nat} (h : sp.covers x = true) (l : MaskedLane) :
    gainLane (some sp) x l = ⟨l.e0.map (gainedChannel · (sp.columnGain x)), l.e1.map (gainedChannel · (sp.columnGain x)),
      l.e2.map (gainedChannel · (sp.columnGain x)), l.e3⟩ := if_pos h

theorem gainLane_of_not_covers {sp : Spine} {x : Nat} (h : ¬sp.covers x = true) (l : MaskedLane) :
    gainLane (some sp) x l = l := if_neg h

theorem laneReports_of_not_covers {sp : Spine} {x : Nat} (h : ¬sp.covers x = true) (l : MaskedLane) :
    laneReports (some sp) x l = 0 := if_neg h

/-- A channel makes one report when it is enabled and saturates, and none otherwise. -/
theorem channelReports_eq_ite (g : Nat) (b : Option Byte) :
    channelReports g b = if b.any (saturates · g) = true then 1 else 0 := by
  cases b <;> rfl

/-- R70: in the band a pixel makes as many reports as it has enabled channels that saturate. -/
theorem laneReports_of_covers {sp : Spine} {x : Nat} (h : sp.covers x = true) (l : MaskedLane) :
    laneReports (some sp) x l =
      ([l.e0, l.e1, l.e2].filter fun b => b.any (saturates · (sp.columnGain x))).length := by
  have hsum : laneReports (some sp) x l =
      channelReports (sp.columnGain x) l.e0 + channelReports (sp.columnGain x) l.e1 + channelReports (sp.columnGain x) l.e2 :=
    if_pos h
  simp only [hsum, channelReports_eq_ite, ← List.countP_eq_length_filter, List.countP_cons, List.countP_nil]
  omega

/-- Settles O57: the column gain is the one between its two knots; the channel's effects follow from its growth with the gain, from the
gain 16384 that keeps it, and from the last gain, 16416, at which white does not saturate. -/
theorem gainFollowsTheFormula : Obligations.GainFollowsTheFormula := by
  refine ⟨?column, ?pixel, ?channel⟩
  case column =>
    intro sp x _ _ g low high f
    have hg : g = betweenKnots low high f := sp.columnGain_eq_betweenKnots x
    obtain ⟨hmin, hmax⟩ : min low high ≤ g ∧ g ≤ max low high := by
      rw [hg]
      exact min_le_betweenKnots_le_max (by omega) (by omega)
    refine ⟨hg, hg.trans (betweenKnots_from_above low high f), hmin, hmax, fun hzero => ?_, fun hsame => ?_⟩
    · rw [hg, hzero, betweenKnots_zero]
    · rw [hg, ← hsame, betweenKnots_self]
  case pixel =>
    intro sp x l
    refine ⟨fun hstart hend => ?_, fun hout => ?_, gainLane_none x l, laneReports_none x l⟩
    · have hin : sp.covers x = true := Spine.covers_iff.mpr ⟨hstart, hend⟩
      refine ⟨gainLane_of_covers hin l, (laneReports_of_covers hin l).trans ?_⟩
      congr 2
      funext b
      cases b <;> rfl
    · have hnot : ¬sp.covers x = true := mt Spine.covers_iff.mp hout
      exact ⟨gainLane_of_not_covers hnot l, laneReports_of_not_covers hnot l⟩
  case channel =>
    intro c g
    refine ⟨saturates_iff, gainedChannel_of_saturates, gainedChannel_zero_left g, ?off, ?darker, ?kept, ?brighter, ?clipped⟩
    case off => rintro rfl; exact gainedChannel_zero_right c
    case darker => exact fun _ hg => ⟨gainedChannel_le_of_le_one (by omega), saturates_eq_false_of_le (by omega)⟩
    case kept => rintro rfl; exact ⟨gainedChannel_one c, saturates_eq_false_of_le (by decide)⟩
    case brighter =>
      exact fun hlow hhigh =>
        ⟨le_gainedChannel_of_one_le (by omega), gainedChannel_white_of_one_le (by omega), saturates_eq_false_of_le hhigh⟩
    case clipped => exact saturates_white_of_le

end Sys2Proof.Machine
end

section
/-! BIND (6.5, R101): what each of its checks asks of the state, the refusal the checks come to, and what a BIND that passes leaves. -/

namespace Sys2Proof.Machine

/-! ### What the checks ask -/

theorem Switch.isArmed_iff {w : Switch} : w.isArmed = true ↔ w ≠ .steady := by
  cases w <;> simp [Switch.isArmed]

/-- R22: a slot has a layout to serve exactly when it is READY. -/
theorem Slot.layout?_isNone_iff {x : Slot} : x.layout?.isNone = true ↔ x.isReady = false := by
  cases x <;> simp [Slot.layout?, Slot.isReady]

/-- R101, check 8: the fill queue holds 4 jobs. -/
theorem State.fillFull_iff {s : State} : s.fillFull = true ↔ 4 ≤ s.fill.jobs.length := decide_eq_true_iff

/-- Checks 3 to 8 of R101, each as what it says of the state. -/
theorem State.bindRefusal_eq (s : State) (i : Fin 8) (p : Plane) (background : Bool) :
    s.bindRefusal i p background =
      if s.planes.scanned = p then some .inScan
      else if s.planes.switch ≠ .steady then some .state
      else if (s.planes.entry p).binding ≠ none then some .planeBound
      else if s.layouts.slots[i].isReady = false then some .notReady
      else if (s.planes.entry p.other).binding = some i then some .inUse
      else if background = true ∧ 4 ≤ s.fill.jobs.length then some .full
      else none := by
  simp only [State.bindRefusal, Switch.isArmed_iff, Option.isSome_iff_ne_none, Slot.layout?_isNone_iff, Bool.and_eq_true,
    State.fillFull_iff]

/-! ### What BIND does by its checks -/

theorem State.takeBind_badPlane {plane : Word} (h : planeOf plane = none) (slot flag : Word) (s : State) :
    s.takeBind slot plane flag = s.recordResult .badPlane := by
  simp only [State.takeBind, h]

theorem State.takeBind_badSlot {slot plane : Word} {p : Plane} (hp : planeOf plane = some p) (hi : slotOf slot = none)
    (flag : Word) (s : State) : s.takeBind slot plane flag = s.recordResult .badSlot := by
  simp only [State.takeBind, hp, hi]

theorem State.takeBind_refused {slot plane flag : Word} {s : State} {p : Plane} {i : Fin 8} {r : Result}
    (hp : planeOf plane = some p) (hi : slotOf slot = some i) (hr : s.bindRefusal i p (flagOf flag) = some r) :
    s.takeBind slot plane flag = s.recordResult r := by
  simp only [State.takeBind, hp, hi, hr]

theorem State.takeBind_plain {slot plane flag : Word} {s : State} {p : Plane} {i : Fin 8}
    (hp : planeOf plane = some p) (hi : slotOf slot = some i) (hr : s.bindRefusal i p (flagOf flag) = none)
    (hflag : ¬flagOf flag = true) :
    s.takeBind slot plane flag = (s.setBinding p (some i)).recordResult .ok := by
  simp only [State.takeBind, hp, hi, hr, if_neg hflag]

/-- R143: nothing of the plane's entry stays, since the binding and the mark are the whole of it. -/
theorem State.joinBackground_setBinding (s : State) (p : Plane) (b : Option (Fin 8)) :
    (s.setBinding p b).joinBackground p =
      { s with
        planes := s.planes.setEntry p { binding := b, backgroundPending := true }
        fill := { s.fill with jobs := s.fill.jobs ++ [newJob p .background] } } := by
  cases p <;> rfl

theorem State.takeBind_background {slot plane flag : Word} {s : State} {p : Plane} {i : Fin 8}
    (hp : planeOf plane = some p) (hi : slotOf slot = some i) (hr : s.bindRefusal i p (flagOf flag) = none)
    (hflag : flagOf flag = true) :
    s.takeBind slot plane flag =
      State.recordResult
        { s with
          planes := s.planes.setEntry p { binding := some i, backgroundPending := true }
          fill := { s.fill with jobs := s.fill.jobs ++ [newJob p .background] } } .ok := by
  simp only [State.takeBind, hp, hi, hr, if_pos hflag, State.joinBackground_setBinding]

/-! ### The record -/

theorem exec_bind_taken {s : State} (h : s.attends = true) (slot plane flag : Word) :
    exec (.bind (~~~3) slot plane flag) s = .next ((s.noteTaken 3).takeBind slot plane flag).conclude := by
  have hact : act (.bind (~~~3) slot plane flag) s = .concluded ((s.noteTaken 3).takeBind slot plane flag) :=
    s.controlRecord_taken 3 _ h
  rw [exec_eq_act, hact]
  rfl

/-- Settles O47: the operands decide the first two checks, `bindRefusal` the other six in their order, and a BIND it does not refuse
goes on by the background-fill flag. -/
theorem bindFollowsItsChecks : Obligations.BindFollowsItsChecks := by
  intro s slot plane flag h
  rw [exec_bind_taken h]
  refine ⟨?badPlane, fun p hplane => ⟨?badSlot, ?checked⟩⟩
  case badPlane =>
    intro hhigh
    rw [State.takeBind_badPlane (planeOf_high plane hhigh), State.recordResult_noteTaken]
    rfl
  case badSlot =>
    intro hhigh
    rw [State.takeBind_badSlot (planeOf_number plane p hplane) (slotOf_high slot hhigh), State.recordResult_noteTaken]
    rfl
  case checked =>
    intro i hslot
    have hp : planeOf plane = some p := planeOf_number plane p hplane
    have hi : slotOf slot = some i := slotOf_number slot i hslot
    have hrefusal : (s.noteTaken 3).bindRefusal i p (flagOf flag) = _ := s.bindRefusal_eq i p (flag.getLsbD 0)
    congr 2
    split_ifs at hrefusal ⊢ with _ _ _ _ _ _ hflag
    iterate 6 exact State.takeBind_refused hp hi hrefusal
    · exact State.takeBind_background hp hi hrefusal hflag
    · exact State.takeBind_plain hp hi hrefusal hflag

end Sys2Proof.Machine
end

section
/-! The pair comparison (7.4, R123): the table's rows, and what a sample leaves alone. -/

namespace Sys2Proof.Machine

/-! ### Agreement -/

theorem pairAgrees_iff {limit a b : Nat} : pairAgrees limit a b = true ↔ (a - b) + (b - a) ≤ limit := decide_eq_true_iff

theorem pairAgrees_eq_false_iff {limit a b : Nat} : pairAgrees limit a b = false ↔ limit < (a - b) + (b - a) :=
  decide_eq_false_iff_not.trans Nat.not_le

/-! ### The table -/

theorem Tracker.compare_agreeing_of_agree {t : Tracker} (h : t.pair = .agree) :
    t.compare true = { t with disagreeing := 0 } := by
  simp only [Tracker.compare, h]

theorem Tracker.compare_disagreeing_of_agree {t : Tracker} (h : t.pair = .agree) :
    t.compare false =
      if t.disagreeing + 1 = 4 then { t with pair := .disagree, disagreeing := 0, agreeing := 0 }
      else { t with disagreeing := t.disagreeing + 1 } := by
  simp only [Tracker.compare, h]

theorem Tracker.compare_disagreeing_of_disagree {t : Tracker} (h : t.pair = .disagree) :
    t.compare false = { t with agreeing := 0 } := by
  simp only [Tracker.compare, h]

theorem Tracker.compare_agreeing_of_disagree {t : Tracker} (h : t.pair = .disagree) :
    t.compare true =
      if t.agreeing + 1 = 4 then { t with pair := .agree, disagreeing := 0, agreeing := 0 }
      else { t with agreeing := t.agreeing + 1 } := by
  simp only [Tracker.compare, h]

/-! ### Compared samples and others -/

theorem Tracker.compareReadings_agreeing (t : Tracker) {a b : Nat} (h : (a - b) + (b - a) ≤ t.agreementLimit) :
    t.compareReadings (some a) (some b) = t.compare true :=
  congrArg t.compare (pairAgrees_iff.2 h)

theorem Tracker.compareReadings_disagreeing (t : Tracker) {a b : Nat} (h : t.agreementLimit < (a - b) + (b - a)) :
    t.compareReadings (some a) (some b) = t.compare false :=
  congrArg t.compare (pairAgrees_eq_false_iff.2 h)

theorem Tracker.compareReadings_of_missing (t : Tracker) {r0 r1 : Option Nat} (h : r0 = none ∨ r1 = none) :
    t.compareReadings r0 r1 = t := by
  obtain rfl | rfl := h
  · rfl
  · cases r0 <;> rfl

/-- Settles O41: the agreement of the two readings picks what is compared, and the pair state the row of the table. -/
theorem pairComparisonFollowsTheTable : Obligations.PairComparisonFollowsTheTable := by
  intro t r0 r1
  refine ⟨?agreeing, ?disagreeing, ?stillDisagreeing, ?agreeingAgain, t.compareReadings_of_missing⟩
  case agreeing =>
    rintro a b rfl rfl hgap hpair
    exact (t.compareReadings_agreeing hgap).trans (Tracker.compare_agreeing_of_agree hpair)
  case disagreeing =>
    rintro a b rfl rfl hgap hpair
    exact (t.compareReadings_disagreeing hgap).trans (Tracker.compare_disagreeing_of_agree hpair)
  case stillDisagreeing =>
    rintro a b rfl rfl hgap hpair
    exact (t.compareReadings_disagreeing hgap).trans (Tracker.compare_disagreeing_of_disagree hpair)
  case agreeingAgain =>
    rintro a b rfl rfl hgap hpair
    exact (t.compareReadings_agreeing hgap).trans (Tracker.compare_agreeing_of_disagree hpair)

end Sys2Proof.Machine
end

section
/-! Fusion (7.4, R124) and the order of an evaluation (R119): usable readings, the fusion table, what an evaluation comes to. -/

namespace Sys2Proof.Machine

/-! ### Usable readings (R122) -/

theorem Sensor.usable_of_good {x : Sensor} (h : x.good = true) (code : Nat) :
    x.usable (some code) = some (reading code x.offset) := if_pos h

theorem Sensor.usable_of_stale {x : Sensor} (h : x.good = false) (code : Nat) : x.usable (some code) = none :=
  if_neg (by simp [h])

theorem Sensor.usable_miss (x : Sensor) : x.usable none = none := rfl

/-! ### The fusion table -/

theorem Tracker.fuse_of_disagree {t : Tracker} (h : t.pair = .disagree) (r0 r1 : Option Nat) : t.fuse r0 r1 = none := by
  simp only [Tracker.fuse, h]

theorem Tracker.fuse_both {t : Tracker} (h : t.pair = .agree) (a b : Nat) :
    t.fuse (some a) (some b) = if (a - b) + (b - a) ≤ t.agreementLimit then some ((a + b) / 2) else none := by
  simp only [Tracker.fuse, h, pairAgrees_iff]

theorem Tracker.fuse_first {t : Tracker} (h : t.pair = .agree) (a : Nat) : t.fuse (some a) none = some a := by
  simp only [Tracker.fuse, h]

theorem Tracker.fuse_second {t : Tracker} (h : t.pair = .agree) (b : Nat) : t.fuse none (some b) = some b := by
  simp only [Tracker.fuse, h]

theorem Tracker.fuse_neither (t : Tracker) : t.fuse none none = none := by
  cases h : t.pair <;> simp only [Tracker.fuse, h]

/-! ### What the pair comparison leaves alone -/

/-- R123 changes the pair state and its two counts alone. -/
theorem Tracker.compare_eq (t : Tracker) (agrees : Bool) :
    ∃ p m n, t.compare agrees = { t with pair := p, disagreeing := m, agreeing := n } := by
  cases h : t.pair <;> cases agrees <;> simp only [Tracker.compare, h]
  case agree.false => split <;> exact ⟨_, _, _, rfl⟩
  case agree.true => exact ⟨_, _, _, rfl⟩
  case disagree.false => exact ⟨_, _, _, rfl⟩
  case disagree.true => split <;> exact ⟨_, _, _, rfl⟩

theorem Tracker.compareReadings_eq (t : Tracker) (r0 r1 : Option Nat) :
    ∃ p m n, t.compareReadings r0 r1 = { t with pair := p, disagreeing := m, agreeing := n } := by
  match r0, r1 with
  | some a, some b => exact t.compare_eq (pairAgrees t.agreementLimit a b)
  | none, _ => exact ⟨_, _, _, rfl⟩
  | some _, none => exact ⟨_, _, _, rfl⟩

@[simp] theorem Tracker.compareReadings_agreementLimit (t : Tracker) (r0 r1 : Option Nat) :
    (t.compareReadings r0 r1).agreementLimit = t.agreementLimit := by
  obtain ⟨_, _, _, h⟩ := t.compareReadings_eq r0 r1
  rw [h]

@[simp] theorem Tracker.compareReadings_lastFused (t : Tracker) (r0 r1 : Option Nat) :
    (t.compareReadings r0 r1).lastFused = t.lastFused := by
  obtain ⟨_, _, _, h⟩ := t.compareReadings_eq r0 r1
  rw [h]

/-! ### Steps 1 to 5 of an evaluation -/

/-- The tracker after the health updates and the pair comparison of an evaluation (R119, steps 1 to 3). -/
def Tracker.compared (t : Tracker) (o0 o1 : Option Nat) : Tracker :=
  (t.updateHealth o0 o1).compareReadings ((t.sensor0.update o0).usable o0) ((t.sensor1.update o1).usable o1)

@[simp] theorem Tracker.compared_agreementLimit (t : Tracker) (o0 o1 : Option Nat) :
    (t.compared o0 o1).agreementLimit = t.agreementLimit :=
  (t.updateHealth o0 o1).compareReadings_agreementLimit _ _

@[simp] theorem Tracker.compared_lastFused (t : Tracker) (o0 o1 : Option Nat) :
    (t.compared o0 o1).lastFused = t.lastFused :=
  (t.updateHealth o0 o1).compareReadings_lastFused _ _

/-- Fusion follows the comparison. -/
theorem Tracker.judge_fused (t : Tracker) (o0 o1 : Option Nat) :
    (t.judge o0 o1).2 =
      (t.compared o0 o1).fuse ((t.sensor0.update o0).usable o0) ((t.sensor1.update o1).usable o1) := rfl

/-- A fused angle becomes the last fused angle, and the mode follows the fusion. -/
theorem Tracker.judge_of_fused {t : Tracker} {o0 o1 : Option Nat} {a : Nat} (h : (t.judge o0 o1).2 = some a) :
    (t.judge o0 o1).1 = { t.compared o0 o1 with lastFused := some a, mode := (t.compared o0 o1).nextMode } := by
  rw [Tracker.judge_fused] at h
  simp only [Tracker.judge, Tracker.compared, Tracker.updateHealth] at h ⊢
  rw [h]
  rfl

/-- Without a fused angle only the mode follows. -/
theorem Tracker.judge_of_unfused {t : Tracker} {o0 o1 : Option Nat} (h : (t.judge o0 o1).2 = none) :
    (t.judge o0 o1).1 = { t.compared o0 o1 with mode := (t.compared o0 o1).nextMode } := by
  rw [Tracker.judge_fused] at h
  simp only [Tracker.judge, Tracker.compared, Tracker.updateHealth] at h ⊢
  rw [h]

/-- The last fused angle after an evaluation is its fused angle, or the one before where it has none. -/
theorem Tracker.judge_eq (t : Tracker) (o0 o1 : Option Nat) :
    (t.judge o0 o1).1 =
      { t.compared o0 o1 with
        lastFused := (t.judge o0 o1).2.or t.lastFused
        mode := (t.compared o0 o1).nextMode } := by
  cases h : (t.judge o0 o1).2 with
  | some a => exact Tracker.judge_of_fused h
  | none => rw [Tracker.judge_of_unfused h, Option.none_or, ← t.compared_lastFused o0 o1]

@[simp] theorem Tracker.judge_pair (t : Tracker) (o0 o1 : Option Nat) :
    (t.judge o0 o1).1.pair = (t.compared o0 o1).pair := by
  rw [Tracker.judge_eq]

@[simp] theorem Tracker.judge_lastFused (t : Tracker) (o0 o1 : Option Nat) :
    (t.judge o0 o1).1.lastFused = (t.judge o0 o1).2.or t.lastFused := by
  rw [Tracker.judge_eq]

/-- R119: classification comes last, and ends the sample. -/
theorem Tracker.evaluate_eq (t : Tracker) (latch : Bool) (o0 o1 : Option Nat) :
    t.evaluate latch o0 o1 = { (t.judge o0 o1).1.settleBy latch (t.judge o0 o1).2 with sample := .none } := rfl

/-- Settles O42: the fused angle is `fuse` of the compared tracker, whose pair state the rest of the evaluation keeps. -/
theorem fusionFollowsTheTable : Obligations.FusionFollowsTheTable := by
  intro t o0 o1 health r0 r1 after fused compared fusedInto
  have hfused : fused = compared.fuse r0 r1 := t.judge_fused o0 o1
  have hpair : after.pair = compared.pair := t.judge_pair o0 o1
  have hlimit : compared.agreementLimit = t.agreementLimit := t.compared_agreementLimit o0 o1
  have hafter : after = { compared with lastFused := fused.or t.lastFused, mode := compared.nextMode } := t.judge_eq o0 o1
  have hlast : after.lastFused = fused.or t.lastFused := t.judge_lastFused o0 o1
  rw [hpair]
  refine ⟨fun x code => ⟨fun h => x.usable_of_good h code, fun h => x.usable_of_stale h code, x.usable_miss⟩,
    ?order, ?both, ?disagreed, ?first, ?second, ?neither, ?last, t.evaluate_eq true o0 o1, t.evaluate_eq false o0 o1⟩
  case order =>
    rw [hafter]
    cases h : fused <;> simp only [fusedInto, h] <;> rfl
  case both =>
    intro a b h0 h1 hagree
    rw [hfused, h0, h1, Tracker.fuse_both hagree, hlimit]
  case disagreed => exact fun hdisagree => hfused.trans (Tracker.fuse_of_disagree hdisagree r0 r1)
  case first =>
    intro a h0 h1 hagree
    rw [hfused, h0, h1, Tracker.fuse_first hagree]
  case second =>
    intro b h0 h1 hagree
    rw [hfused, h0, h1, Tracker.fuse_second hagree]
  case neither =>
    intro h0 h1
    rw [hfused, h0, h1, Tracker.fuse_neither]
  case last =>
    rw [hlast]
    cases fused <;> rfl

end Sys2Proof.Machine
end

section
/-! SET-MAP and SET-TRACKER (7.7, R132 to R134): what the operands ask, what is stored, and the result. -/

namespace Sys2Proof.Machine

/-- A command whose record is attended to does what the decoder does once the record is noted, and its step ends. -/
theorem exec_record_taken {c : Instr} {s : State} {command : Word} {take : State → State} (h : s.attends = true)
    (hact : act c s = s.controlRecord command (~~~command) take) :
    exec c s = .next (take (s.noteTaken command)).conclude := by
  rw [exec_eq_act, hact, State.controlRecord_taken s command take h]
  rfl

/-! ### SET-MAP (R134) -/

theorem State.takeSetMap_stored {closed partly opened : Word} {c p o : Option (Fin 8)} (hc : mapEntryOf closed = some c)
    (hp : mapEntryOf partly = some p) (ho : mapEntryOf opened = some o) (s : State) :
    s.takeSetMap closed partly opened = State.recordResult { s with tracker := { s.tracker with map := ⟨c, p, o⟩ } } .ok := by
  simp only [State.takeSetMap, hc, hp, ho]

/-- Only the number of a slot or 15 is an entry of the map. -/
theorem mapEntryOf_some {w : Word} {e : Option (Fin 8)} (h : mapEntryOf w = some e) : w.toNat < 8 ∨ w.toNat = 15 := by
  by_contra hbad
  rw [mapEntryOf_bad w hbad] at h
  contradiction

/-- One operand that is neither a slot nor NONE is enough for none of the three to be stored. -/
theorem State.takeSetMap_refused {closed partly opened : Word}
    (h : ¬((closed.toNat < 8 ∨ closed.toNat = 15) ∧ (partly.toNat < 8 ∨ partly.toNat = 15) ∧
      (opened.toNat < 8 ∨ opened.toNat = 15))) (s : State) :
    s.takeSetMap closed partly opened = s.recordResult .badSlot := by
  unfold State.takeSetMap
  split
  next hc hp ho => exact absurd ⟨mapEntryOf_some hc, mapEntryOf_some hp, mapEntryOf_some ho⟩ h
  next => rfl

/-! ### SET-TRACKER (R132, R133) -/

theorem thresholdsOk_iff {closedEnter closedExit openExit openEnter : Nat} :
    thresholdsOk closedEnter closedExit openExit openEnter = true ↔
      closedEnter < closedExit ∧ closedExit < openExit ∧ openExit < openEnter ∧ openEnter ≤ 1800 := by
  simp [thresholdsOk, and_assoc]

theorem inRange_iff {low high n : Nat} : inRange low high n = true ↔ low ≤ n ∧ n ≤ high := by
  simp [inRange]

theorem inRangeInt_iff {low high n : Int} : inRangeInt low high n = true ↔ low ≤ n ∧ n ≤ high := by
  simp [inRangeInt]

/-- The tracker with the settings of a SET-TRACKER record, each brought into its range. -/
def Tracker.withSettings (t : Tracker) (closedEnter closedExit openExit openEnter dwell limit offset0 offset1 period : Word) :
    Tracker :=
  { t with
    closedEnter := closedEnter.toNat
    closedExit := closedExit.toNat
    openExit := openExit.toNat
    openEnter := openEnter.toNat
    dwell := clamp 1 64 dwell.toNat
    agreementLimit := clamp 10 300 limit.toNat
    sensor0 := { t.sensor0 with offset := clampInt (-100) 100 offset0.toInt }
    sensor1 := { t.sensor1 with offset := clampInt (-100) 100 offset1.toInt }
    period := clamp 1 50 period.toNat
    candidate := none
    sampleTimer := some (clamp 1 50 period.toNat) }

/-- R132: whether no setting of the record has to be moved into its range. -/
def settingsInRange (dwell limit offset0 offset1 period : Word) : Bool :=
  inRange 1 64 dwell.toNat && inRange 10 300 limit.toNat && inRangeInt (-100) 100 offset0.toInt &&
    inRangeInt (-100) 100 offset1.toInt && inRange 1 50 period.toNat

theorem settingsInRange_iff {dwell limit offset0 offset1 period : Word} :
    settingsInRange dwell limit offset0 offset1 period = true ↔
      (1 ≤ dwell.toNat ∧ dwell.toNat ≤ 64) ∧ (10 ≤ limit.toNat ∧ limit.toNat ≤ 300) ∧
        (-100 ≤ offset0.toInt ∧ offset0.toInt ≤ 100) ∧ (-100 ≤ offset1.toInt ∧ offset1.toInt ≤ 100) ∧
        (1 ≤ period.toNat ∧ period.toNat ≤ 50) := by
  simp only [settingsInRange, Bool.and_eq_true, inRange_iff, inRangeInt_iff, and_assoc]

section
variable {closedEnter closedExit openExit openEnter : Word} (dwell limit offset0 offset1 period : Word) (s : State)

theorem State.takeSetTracker_refused
    (h : ¬thresholdsOk closedEnter.toNat closedExit.toNat openExit.toNat openEnter.toNat = true) :
    s.takeSetTracker closedEnter closedExit openExit openEnter dwell limit offset0 offset1 period =
      s.recordResult .badValue := if_neg h

theorem State.takeSetTracker_stored
    (h : thresholdsOk closedEnter.toNat closedExit.toNat openExit.toNat openEnter.toNat = true) :
    s.takeSetTracker closedEnter closedExit openExit openEnter dwell limit offset0 offset1 period =
      State.recordResult
        { s with
          tracker := s.tracker.withSettings closedEnter closedExit openExit openEnter dwell limit offset0 offset1 period }
        (clampResult (settingsInRange dwell limit offset0 offset1 period)) := if_pos h

end

/-- Noting a record leaves the tracker alone, so a tracker may be stored before or after. -/
theorem State.recordResult_tracker_noteTaken (s : State) (t : Tracker) (command : Word) (r : Result) :
    State.recordResult { s.noteTaken command with tracker := t } r =
      State.answered { s with tracker := t } (command.setWidth 8) r := rfl

/-- Settles O51: each command stores its settings whole or not at all, and the result says which. -/
theorem trackerSettingsAreStored : Obligations.TrackerSettingsAreStored := by
  intro s h
  refine ⟨fun closed partly opened => ?map, fun ce cx ox oe dwell limit offset0 offset1 period => ?settings⟩
  case map =>
    have hexec := exec_record_taken (c := .setMap (~~~8) closed partly opened) (command := 8) h rfl
    refine ⟨fun hbad => ?_, fun c p o hc hp ho => ?_⟩
    · rw [hexec, State.takeSetMap_refused hbad, State.recordResult_noteTaken]
      rfl
    · rw [hexec, State.takeSetMap_stored (mapEntryOf_byte _ c hc) (mapEntryOf_byte _ p hp) (mapEntryOf_byte _ o ho),
        State.recordResult_tracker_noteTaken]
      rfl
  case settings =>
    have hexec := exec_record_taken
      (c := .setTracker (~~~9) ce cx ox oe dwell limit offset0 offset1 period) (command := 9) h rfl
    refine ⟨fun hdisordered => ?_, fun hordered => ?_⟩
    · rw [hexec, State.takeSetTracker_refused _ _ _ _ _ _ fun hok => hdisordered (thresholdsOk_iff.1 hok),
        State.recordResult_noteTaken]
      rfl
    · intro stored
      have hstored : exec (.setTracker (~~~9) ce cx ox oe dwell limit offset0 offset1 period) s =
          .next (stored.answered 9 (clampResult (settingsInRange dwell limit offset0 offset1 period))).conclude := by
        rw [hexec, State.takeSetTracker_stored _ _ _ _ _ _ (thresholdsOk_iff.2 hordered),
          State.recordResult_tracker_noteTaken]
        rfl
      refine ⟨fun hwithin => ?_, fun houtside => ?_⟩
      · rw [hstored, settingsInRange_iff.2 hwithin]
        rfl
      · rw [hstored, Bool.eq_false_iff.2 fun hin => houtside (settingsInRange_iff.1 hin)]
        rfl

end Sys2Proof.Machine
end

section
/-! FILL (8.4, R145): its checks read off the operand words, the HOST job that joins, and the record. -/

namespace Sys2Proof.Machine

/-! ### What the operands ask -/

/-- R145, check 3: a rectangle is refused when a side of it is 0 or when it leaves the panel. -/
theorem fillRectOk_eq_false_iff {x y width height : Nat} :
    fillRectOk x y width height = false ↔ width = 0 ∨ height = 0 ∨ 2400 < x + width ∨ 1800 < y + height := by
  simp only [fillRectOk, Bool.and_eq_false_iff, decide_eq_false_iff_not, not_not, not_le, or_assoc]
  rfl

/-- The colour operand byte by byte, the lowest first. -/
theorem colourOf_eq (w : Word) :
    colourOf w =
      ⟨BitVec.ofNat 8 w.toNat, BitVec.ofNat 8 (w.toNat / 256), BitVec.ofNat 8 (w.toNat / 65536),
        BitVec.ofNat 8 (w.toNat / 16777216)⟩ := by
  simp [colourOf, Quad.ofFn]

/-! ### What FILL does by its checks -/

theorem State.takeFill_badPlane {plane : Word} (h : planeOf plane = none) (x y width height colour : Word) (s : State) :
    s.takeFill plane x y width height colour = s.recordResult .badPlane := by
  simp only [State.takeFill, h]

/-- Checks 2 to 4 of R145, each as what it says of the state, and the HOST job of a FILL that passes them. -/
theorem State.takeFill_eq {plane : Word} {p : Plane} (hp : planeOf plane = some p) (x y width height colour : Word) (s : State) :
    s.takeFill plane x y width height colour =
      if (s.planes.entry p).binding = none then s.recordResult .noLayout
      else if width.toNat = 0 ∨ height.toNat = 0 ∨ 2400 < x.toNat + width.toNat ∨ 1800 < y.toNat + height.toNat then
        s.recordResult .badValue
      else if 4 ≤ s.fill.jobs.length then s.recordResult .full
      else
        (s.setJobs (s.fill.jobs ++ [hostJob p ⟨x.toNat, y.toNat, width.toNat, height.toNat⟩ (colourOf colour)])).recordResult
          .ok := by
  simp only [State.takeFill, hp, Option.isNone_iff_eq_none, Bool.not_eq_true', fillRectOk_eq_false_iff, State.fillFull_iff]

/-- Noting a record leaves the fill queue alone, so jobs may join it before or after. -/
theorem State.recordResult_setJobs_noteTaken (s : State) (jobs : List FillJob) (command : Word) (r : Result) :
    ((s.noteTaken command).setJobs jobs).recordResult r = (s.setJobs jobs).answered (command.setWidth 8) r := rfl

/-- Settles O50: the plane operand decides the first check; the other three are taken in their order, and a FILL that passes them
adds its job at the tail. -/
theorem fillFollowsItsChecks : Obligations.FillFollowsItsChecks := by
  intro s plane x y width height colour h
  rw [exec_record_taken (c := .fill (~~~7) plane x y width height colour) (command := 7) h rfl]
  refine ⟨fun hhigh => ?badPlane, fun p hplane => ?checked⟩
  case badPlane =>
    rw [State.takeFill_badPlane (planeOf_high plane hhigh), State.recordResult_noteTaken]
    rfl
  case checked =>
    rw [State.takeFill_eq (planeOf_number plane p hplane), colourOf_eq]
    simp only [State.recordResult_noteTaken, State.recordResult_setJobs_noteTaken, State.noteTaken_planes, State.noteTaken_fill]
    rfl

end Sys2Proof.Machine
end

section
/-! What a command can do to the part, as far as the laws of Safety speak of it: a list of elementary moves, each with its guard, and for
every operation of the model that it comes to such moves. Each law is then shown once of each move. -/

namespace Sys2Proof.Machine

/-! ### The part of the state the laws speak of -/

/-- The fields that some law of Safety reads. -/
structure Ruled where
  highWater : Nat
  settleSetting : Nat
  inbound : List Request
  outQueue : List Segment
  translator : Translator
  collector : Collector
  layouts : LayoutTable
  planes : Planes
  tracker : Tracker
  jobs : List FillJob
  busy : Bool
  counters : Counters

def State.ruled (s : State) : Ruled where
  highWater := s.front.highWater
  settleSetting := s.front.settleSetting
  inbound := s.inbound
  outQueue := s.outQueue
  translator := s.translator
  collector := s.collector
  layouts := s.layouts
  planes := s.planes
  tracker := s.tracker
  jobs := s.fill.jobs
  busy := s.decoder.busy
  counters := s.status.counters

/-- R45, R55: every lane a write job has still to bring to the collector has an enabled byte. -/
structure WriteJob.Filled (job : WriteJob) : Prop where
  hand : ∀ i w, job.hand = .insert i w → laneFilled i.bytes = true
  todo : ∀ lane, LaneStep.turned lane ∈ job.todo → laneFilled lane.bytes = true

def State.HandsFilled (s : State) : Prop := ∀ job, s.translator = .writing job → job.Filled

/-- A change of the collector that makes no entry and merges no byte: entries only leave, and neither queue outgrows its places. -/
structure Collector.Calm (c d : Collector) : Prop where
  table : (d.table.map fun e => (e.key, e.data)).Sublist (c.table.map fun e => (e.key, e.data))
  ordinary : c.ordinary.length ≤ Config.flushPlaces → d.ordinary.length ≤ Config.flushPlaces
  priority : c.priority.length ≤ Config.flushPlaces → d.priority.length ≤ Config.flushPlaces
  interval : d.ageInterval = c.ageInterval

/-- An elementary change of what the laws speak of, with what guards it. -/
inductive Move : State → State → Prop
  /-- Nothing that a law reads changes. -/
  | same {s t : State} (h : t.ruled = s.ruled) : Move s t
  /-- R15. -/
  | powerOn {s t : State} (h : t.ruled = State.reset.ruled) : Move s t
  | count (s : State) (c : Counter) (n : Nat) : Move s (s.count c n)
  | clearCounters (s : State) : Move s { s with status := { s.status with counters := Counters.zero } }
  | inboundLeaves {s : State} {q : List Request} (h : q <:+ s.inbound) : Move s { s with inbound := q }
  | inboundJoins {s : State} {r : Request} (h : s.inbound.length < s.front.highWater) :
      Move s { s with inbound := s.inbound ++ [r] }
  | segmentsLeave {s : State} {q : List Segment} (h : q <:+ s.outQueue) : Move s { s with outQueue := q }
  | segmentJoins {s : State} {x : Segment} (h : s.outputRoom = true) : Move s { s with outQueue := s.outQueue ++ [x] }
  | translatorRests {s : State} {x : Translator} (h : ∀ job, x ≠ .writing job) : Move s { s with translator := x }
  | inHand {s : State} {job : WriteJob} (h : s.HandsFilled → job.Filled) : Move s { s with translator := .writing job }
  | collectorCalm {s : State} {c : Collector} (h : s.collector.Calm c) : Move s { s with collector := c }
  | inserts {s : State} {i : Insert} {id : Nat} {sleeping : Bool} (h : s.HandsFilled → laneFilled i.bytes = true) :
      Move s { s with collector := (s.collector.insert i id sleeping).collector }
  | settings {s : State} {mark settle age limit : Nat} {timer : Option Nat} (hmark : 8 ≤ mark ∧ mark ≤ 32)
      (hsettle : 1 ≤ settle ∧ settle ≤ 255) (hage : 1 ≤ age ∧ age ≤ 50) (hlimit : 10 ≤ limit ∧ limit ≤ 1000) :
      Move s
        { s with
          front := { s.front with highWater := mark, settleSetting := settle }
          collector := { s.collector with ageInterval := age, ageTimer := timer }
          planes := { s.planes with swapLimit := limit } }
  | guardJoins {s : State} (hroom : s.fillFull = false)
      (hnone : s.fill.jobs.any (FillJob.isGuard s.planes.scanned) = false) (hbound : (s.planes.entry s.planes.scanned).binding.isSome) :
      Move s (s.setJobs (s.fill.jobs ++ [newJob s.planes.scanned .guard]))
  | hostJoins {s : State} {p : Plane} {r : Rect} {c : Colour} (hroom : s.fillFull = false)
      (hbound : (s.planes.entry p).binding.isSome) : Move s (s.setJobs (s.fill.jobs ++ [hostJob p r c]))
  | headMoves {s : State} {job job' : FillJob} {rest : List FillJob} (h : s.fill.jobs = job :: rest) (hplane : job'.plane = job.plane)
      (hkind : job'.kind = job.kind) : Move s (s.setJobs (job' :: rest))
  | headEnds {s : State} {job : FillJob} {rest : List FillJob} (h : s.fill.jobs = job :: rest) :
      Move s (if job.kind = .background then (s.setJobs rest).setPending job.plane false else s.setJobs rest)
  | jobsCancelled (s : State) : Move s (((s.setJobs []).setPending .A false).setPending .B false)
  | binds {s : State} {i : Fin 8} {p : Plane} {background : Bool} (h : s.bindRefusal i p background = none) :
      Move s (if background then (s.setBinding p (some i)).joinBackground p else s.setBinding p (some i))
  | unbinds {s : State} {p : Plane} (hscan : s.planes.scanned ≠ p) (hsteady : s.planes.switch = .steady) :
      Move s
        { s with
          planes :=
            s.planes.setEntry p
              { binding := none
                backgroundPending := (s.planes.entry p).backgroundPending && !s.fill.jobs.any (FillJob.isBackground p) }
          fill := { s.fill with jobs := s.fill.jobs.filter fun j => j.plane ≠ p } }
  | arms {s : State} {r : ArmRecord} (hsteady : s.planes.switch = .steady) (hbound : (s.planes.entry s.planes.idle).binding.isSome)
      (htarget : r.target = s.planes.idle) (hmoved : r.selectMoved = false) : Move s (s.setSwitch (.armed r))
  | notes {s : State} {r r' : ArmRecord} (h : s.planes.switch = .armed r) (htarget : r'.target = r.target)
      (hmoved : r'.selectMoved = r.selectMoved) : Move s (s.setSwitch (.armed r'))
  | withdraws {s : State} {r : ArmRecord} (h : s.planes.switch = .armed r) (hmoved : r.selectMoved = false) :
      Move s (s.setSwitch .steady)
  | movesSelect {s : State} {r : ArmRecord} (h : s.planes.switch = .armed r) : Move s (s.moveSelect r)
  | swaps {s : State} {r : ArmRecord} (h : s.planes.switch = .armed r) :
      Move s { s with planes := { s.planes with scanned := r.target, select := r.target, switch := .steady } }
  | tracks {s : State} {t : Tracker} (h : s.tracker.Sound → t.Sound) : Move s { s with tracker := t }
  | loadBegins {s : State} {i : Fin 8} {offset : Nat} (hfree : s.planes.slotBound i = false) (hidle : s.decoder.busy = false) :
      Move s
        { s with
          layouts :=
            { slots := s.layouts.slots.set i (.loading s.layouts.slots[i].layout?)
              load := some { slot := i, offset := offset, kind := .head, fetched := 0, staging := Staging.cleared, phase := .waiting,
                             data := [] } }
          decoder := { s.decoder with busy := true } }
  | loadGoesOn {s : State} {l l' : Load} (h : s.layouts.load = some l) (hslot : l'.slot = l.slot)
      (hstaging : l.staging.Sound → l'.staging.Sound) : Move s { s with layouts := { s.layouts with load := some l' } }
  | loadEnds {s : State} {l : Load} {x : Slot} (h : s.layouts.load = some l)
      (hslot : x = restoredSlot s.layouts.slots[l.slot] ∨ ∃ layout, x = .ready layout ∧ (l.staging.Sound → layout.Sound)) :
      Move s
        { s with
          layouts := { slots := s.layouts.slots.set l.slot x, load := none }
          decoder := { s.decoder with busy := false } }
  | rests {s : State} (h : s.layouts.load = none) : Move s { s with decoder := { s.decoder with busy := false } }
  | slotEmpties {s : State} {i : Fin 8} (hfree : s.planes.slotBound i = false) (hidle : s.decoder.busy = false) :
      Move s (s.setSlot i .empty)

/-- A state comes of another by moves. -/
def Leads (s t : State) : Prop := Relation.ReflTransGen Move s t

/-- A state comes of another by moves that leave the select line where it is. -/
def Reaches (s t : State) : Prop :=
  Relation.ReflTransGen (fun s t => Move s t ∧ (s.switchLaw → t.planes.select = s.planes.select)) s t

theorem Reaches.refl (s : State) : Reaches s s := Relation.ReflTransGen.refl

theorem Reaches.trans {s t u : State} (h : Reaches s t) (k : Reaches t u) : Reaches s u := Relation.ReflTransGen.trans h k

theorem Move.reaches {s t : State} (h : Move s t) (hselect : s.switchLaw → t.planes.select = s.planes.select := by intro _; rfl) :
    Reaches s t := Relation.ReflTransGen.single ⟨h, hselect⟩

theorem Reaches.same {s t : State} (h : t.ruled = s.ruled) : Reaches s t :=
  (Move.same h).reaches fun _ => congrArg (fun x => x.planes.select) h

/-- What the laws read of a state is what they read of another that some moves lead to. -/
theorem Reaches.to {s t u : State} (h : Reaches s t) (k : u.ruled = t.ruled) : Reaches s u := h.trans (.same k)

theorem Reaches.leads {s t : State} (h : Reaches s t) : Leads s t := by
  induction h with
  | refl => exact Relation.ReflTransGen.refl
  | tail _ hm ih => exact ih.tail hm.1

theorem Leads.refl (s : State) : Leads s s := Relation.ReflTransGen.refl

theorem Leads.trans {s t u : State} (h : Leads s t) (k : Leads t u) : Leads s u := Relation.ReflTransGen.trans h k

theorem Move.leads {s t : State} (h : Move s t) : Leads s t := Relation.ReflTransGen.single h

/-- A property every move keeps holds wherever moves lead. -/
theorem Leads.keeps {P : State → Prop} (hP : ∀ s t, Move s t → P s → P t) {s t : State} (h : Leads s t) (hs : P s) : P t := by
  induction h with
  | refl => exact hs
  | tail _ hm ih => exact hP _ _ hm ih

/-! ### Status writer -/

@[simp] theorem State.recordCause_ruled (s : State) : s.recordCause.ruled = s.ruled := by
  obtain ⟨w, b, h⟩ := s.recordCause_eq
  rw [h]; rfl

@[simp] theorem State.report_ruled (s : State) (f : EventFlag) : (s.report f).ruled = s.ruled := by
  obtain ⟨fl, w, b, h⟩ := s.report_eq f
  rw [h]; rfl

@[simp] theorem State.recordResult_ruled (s : State) (r : Result) : (s.recordResult r).ruled = s.ruled := by
  simp [State.recordResult]; rfl

@[simp] theorem State.offerRecord_ruled (s : State) : s.offerRecord.ruled = s.ruled := by
  unfold State.offerRecord
  split <;> rfl

@[simp] theorem State.recordWritten_ruled (s : State) : s.recordWritten.ruled = s.ruled := by
  unfold State.recordWritten
  split
  · rfl
  · exact s.offerRecord_ruled
  all_goals rfl

@[simp] theorem State.offerDue_ruled (s : State) : s.offerDue.ruled = s.ruled := by
  unfold State.offerDue
  split
  · exact s.offerRecord_ruled
  all_goals rfl

theorem State.report_reaches (s : State) (f : EventFlag) : Reaches s (s.report f) := .same (s.report_ruled f)

theorem State.reportSaturations_reaches (s : State) (n : Nat) : Reaches s (s.reportSaturations n) := by
  unfold State.reportSaturations
  split
  · exact .refl s
  · exact (Move.count s .saturation n).reaches.trans (State.report_reaches _ _)

@[simp] theorem State.reportSaturations_translator (s : State) (n : Nat) : (s.reportSaturations n).translator = s.translator := by
  obtain ⟨st, b, -, h⟩ := s.reportSaturations_eq n
  rw [h]

@[simp] theorem State.report_translator (s : State) (f : EventFlag) : (s.report f).translator = s.translator := by
  obtain ⟨fl, w, b, h⟩ := s.report_eq f
  rw [h]

end Sys2Proof.Machine
end

section
/-! The collector's own operations: which of them only let entries leave, and what an insert does to the table (5.2 to 5.8). -/

namespace Sys2Proof.Machine.Collector

/-! ### Operations that make no entry -/

theorem Calm.refl (c : Collector) : c.Calm c := ⟨.refl _, fun h => h, fun h => h, rfl⟩

theorem Calm.trans {c d e : Collector} (h : c.Calm d) (k : d.Calm e) : c.Calm e :=
  ⟨k.table.trans h.table, k.ordinary ∘ h.ordinary, k.priority ∘ h.priority, k.interval.trans h.interval⟩

/-- A collector whose table, queues and interval are another's is as calm. -/
theorem Calm.congr {c d e : Collector} (h : c.Calm d)
    (htable : (e.table.map fun x => (x.key, x.data)) = d.table.map fun x => (x.key, x.data))
    (hordinary : e.ordinary = d.ordinary) (hpriority : e.priority = d.priority) (hinterval : e.ageInterval = d.ageInterval) : c.Calm e :=
  ⟨htable ▸ h.table, hordinary ▸ h.ordinary, hpriority ▸ h.priority, hinterval.trans h.interval⟩

theorem ordinaryRoom_iff {c : Collector} : c.ordinaryRoom = true ↔ c.ordinary.length < 16 := decide_eq_true_iff

theorem priorityRoom_iff {c : Collector} : c.priorityRoom = true ↔ c.priority.length < 16 := decide_eq_true_iff

theorem tableRoom_iff {c : Collector} : c.tableRoom = true ↔ c.table.length < 256 := decide_eq_true_iff

theorem setFlush_calm (c : Collector) (id : Nat) (f : FlushState) : c.Calm (c.setFlush id f) := by
  refine (Calm.refl c).congr ?_ rfl rfl rfl
  simp only [setFlush, List.map_map]
  congr 1
  funext e
  simp only [Function.comp_apply]
  split <;> rfl

theorem leaveOrdinary_calm {c : Collector} {id : Nat} (h : c.ordinaryRoom = true) : c.Calm (c.leaveOrdinary id) := by
  unfold leaveOrdinary
  split
  · exact .refl c
  · refine ⟨List.filter_sublist.map _, fun _ => ?_, fun h => h, rfl⟩
    have := ordinaryRoom_iff.1 h
    simp only [List.length_append, List.length_singleton, Config.flushPlaces]
    omega

theorem fillOrdinaryWith_calm (c : Collector) (ids : List Nat) : c.Calm (c.fillOrdinaryWith ids) := by
  induction ids generalizing c with
  | nil => exact .refl c
  | cons id rest ih =>
    unfold fillOrdinaryWith
    split
    · next h => exact (leaveOrdinary_calm h).trans (ih _)
    · exact .refl c

theorem askOrdinary_calm (c : Collector) (id : Nat) : c.Calm (c.askOrdinary id) := by
  unfold askOrdinary
  split
  · exact .refl c
  · split
    · split
      · next h => exact leaveOrdinary_calm (Bool.and_eq_true_iff.1 h).1
      · exact (c.setFlush_calm id _).congr rfl rfl rfl rfl
    · exact .refl c
    · exact .refl c

theorem askEach_calm (c : Collector) (ids : List Nat) : c.Calm (c.askEach ids) := by
  induction ids generalizing c with
  | nil => exact .refl c
  | cons id rest ih => exact (c.askOrdinary_calm id).trans (ih _)

theorem movePriority_calm {c : Collector} {id : Nat} (h : c.priorityRoom = true) : c.Calm (c.movePriority id) := by
  have hroom := priorityRoom_iff.1 h
  unfold movePriority
  split
  · refine ⟨.refl _, fun hle => (List.length_filter_le _ _).trans hle, fun _ => ?_, rfl⟩
    simp only [List.length_append, List.length_singleton, Config.flushPlaces]
    omega
  · split
    · refine ⟨List.filter_sublist.map _, fun h => h, fun _ => ?_, rfl⟩
      simp only [List.length_append, List.length_singleton, Config.flushPlaces]
      omega
    · exact .refl c

theorem moveEach_calm (c : Collector) (ids : List Nat) : c.Calm (c.moveEach ids) := by
  induction ids generalizing c with
  | nil => exact .refl c
  | cons id rest ih =>
    unfold moveEach
    split
    · next h => exact (movePriority_calm h).trans (ih _)
    · exact .refl c

theorem carryOut_calm (c : Collector) : c.Calm c.carryOut := (c.moveEach_calm _).congr rfl rfl rfl rfl

theorem advance_calm (c : Collector) : c.Calm c.advance := c.carryOut_calm.trans (fillOrdinaryWith_calm _ _)

theorem makeRequest_calm (c : Collector) (k : Key) : c.Calm (c.makeRequest k) := by
  unfold makeRequest
  split
  · exact .refl c
  · refine (Calm.refl c).congr ?_ rfl rfl rfl
    simp only [List.map_map]
    congr 1
    funext e
    simp only [Function.comp_apply]
    split <;> rfl

theorem makeRequests_calm (c : Collector) (keys : List Key) : c.Calm (c.makeRequests keys) := by
  induction keys generalizing c with
  | nil => exact .refl c
  | cons k rest ih => exact (c.makeRequest_calm k).trans (ih _)

theorem requestPriority_calm (c : Collector) (keys : List Key) : c.Calm (c.requestPriority keys) :=
  (c.makeRequests_calm keys).trans (advance_calm _)

theorem drain_calm (c : Collector) (p : Plane) (commit : Nat) (flying : List Nat) : c.Calm (c.drain p commit flying) := by
  have h := c.requestPriority_calm (c.drainKeys p)
  unfold drain
  dsimp only
  split
  · exact h
  · exact h.congr rfl rfl rfl rfl

theorem leaveDrains_calm (c : Collector) (gone : Nat → Bool) : c.Calm (c.leaveDrains gone) := (Calm.refl c).congr rfl rfl rfl rfl

theorem discard_calm (c : Collector) (p : Plane) : c.Calm (c.discard p) := by
  refine Calm.trans ⟨?_, ?_, ?_, ?_⟩ (advance_calm _)
  · exact List.filter_sublist.map _
  · exact (List.length_filter_le _ _).trans
  · exact (List.length_filter_le _ _).trans
  · rfl

theorem clear_calm (c : Collector) (timer : Option Nat) : c.Calm (c.clear timer) :=
  ⟨List.nil_sublist _, fun _ => Nat.zero_le _, fun _ => Nat.zero_le _, rfl⟩

theorem ageTick_calm (c : Collector) : c.Calm c.ageTick := by
  have haged : c.Calm { c with table := c.table.map fun e => { e with age := min 2 (e.age + 1) } } :=
    (Calm.refl c).congr (by simp [List.map_map, Function.comp_def]) rfl rfl rfl
  exact haged.trans (askEach_calm _ _)

theorem flushAll_calm (c : Collector) : c.Calm c.flushAll := c.askEach_calm _

/-- A head that leaves the priority queue. -/
theorem priorityLeaves_calm {c : Collector} {w : FlushWrite} {rest : List FlushWrite} (h : c.priority = w :: rest) :
    c.Calm { c with priority := rest } :=
  ⟨.refl _, fun h => h, fun hle => by rw [h] at hle; exact Nat.le_of_succ_le hle, rfl⟩

/-- A head that leaves the ordinary queue. -/
theorem ordinaryLeaves_calm {c : Collector} {w : FlushWrite} {rest : List FlushWrite} (h : c.ordinary = w :: rest) :
    c.Calm { c with ordinary := rest } :=
  ⟨.refl _, fun hle => by rw [h] at hle; exact Nat.le_of_succ_le hle, fun h => h, rfl⟩

/-! ### The table's law (R77) -/

/-- No two entries for one key, and no entry without an enabled byte. -/
structure TableLaw (c : Collector) : Prop where
  keys : (c.table.map (·.key)).Nodup
  filled : ∀ e ∈ c.table, beatFilled e.data = true

/-- 00_scope section 7: the table and both queues within their places. -/
structure Places (c : Collector) : Prop where
  table : c.table.length ≤ Config.tablePlaces
  ordinary : c.ordinary.length ≤ Config.flushPlaces
  priority : c.priority.length ≤ Config.flushPlaces

theorem Calm.table_length {c d : Collector} (h : c.Calm d) : d.table.length ≤ c.table.length := by
  simpa using h.table.length_le

theorem Calm.tableLaw {c d : Collector} (h : c.Calm d) (hc : c.TableLaw) : d.TableLaw := by
  have hkeys : (d.table.map (·.key)).Sublist (c.table.map (·.key)) := by
    simpa [List.map_map, Function.comp_def] using h.table.map Prod.fst
  refine ⟨hc.keys.sublist hkeys, fun e he => ?_⟩
  have hmem : (e.key, e.data) ∈ c.table.map fun e => (e.key, e.data) :=
    h.table.subset (List.mem_map_of_mem (f := fun e : Entry => (e.key, e.data)) he)
  obtain ⟨x, hx, heq⟩ := List.mem_map.1 hmem
  have hdata : x.data = e.data := congrArg Prod.snd heq
  exact hdata ▸ hc.filled x hx

theorem Calm.places {c d : Collector} (h : c.Calm d) (hc : c.Places) : d.Places :=
  ⟨h.table_length.trans hc.table, h.ordinary hc.ordinary, h.priority hc.priority⟩

/-! ### Inserts (R80 to R83) -/

theorem laneFilled_mergeLane_right {old new : MaskedLane} (h : laneFilled new = true) : laneFilled (mergeLane old new) = true := by
  obtain ⟨o0, o1, o2, o3⟩ := old
  obtain ⟨n0, n1, n2, n3⟩ := new
  simp only [laneFilled, mergeLane, Quad.any, Quad.zipWith, Bool.or_eq_true] at h ⊢
  obtain ((h | h) | h) | h := h <;> obtain ⟨b, rfl⟩ := Option.isSome_iff_exists.1 h <;> simp

theorem beatFilled_set {b : MaskedBeat} {k : Nat} {l : MaskedLane} (h : laneFilled l = true) : beatFilled (b.set k l) = true := by
  unfold beatFilled Quad.any Quad.set
  split <;> simp [h]

/-- A merge of a lane with an enabled byte leaves a beat with one. -/
theorem beatFilled_mergeBeat {b : MaskedBeat} {k : Nat} {l : MaskedLane} (h : laneFilled l = true) :
    beatFilled (mergeBeat b k l) = true := beatFilled_set (laneFilled_mergeLane_right h)

theorem merge_table_law {c : Collector} {i : Insert} {e : Entry} (hi : laneFilled i.bytes = true) (hc : c.TableLaw) :
    (c.merge i e).TableLaw := by
  have hmerged : TableLaw { c with
      table := c.table.map fun x => if x.id = e.id then { x with data := mergeBeat e.data i.lane i.bytes } else x } := by
    refine ⟨?_, fun x hx => ?_⟩
    · have : (fun x : Entry => (if x.id = e.id then { x with data := mergeBeat e.data i.lane i.bytes } else x).key) = (·.key) := by
        funext x; split <;> rfl
      simpa [List.map_map, Function.comp_def, this] using hc.keys
    · obtain ⟨y, hy, rfl⟩ := List.mem_map.1 hx
      split
      · exact beatFilled_mergeBeat hi
      · exact hc.filled y hy
  unfold merge
  dsimp only
  split
  · exact (askOrdinary_calm _ _).tableLaw hmerged
  · exact hmerged

theorem merge_places {c : Collector} {i : Insert} {e : Entry} (hc : c.Places) : (c.merge i e).Places := by
  have hmerged : Places { c with
      table := c.table.map fun x => if x.id = e.id then { x with data := mergeBeat e.data i.lane i.bytes } else x } :=
    ⟨by simpa using hc.table, hc.ordinary, hc.priority⟩
  unfold merge
  dsimp only
  split
  · exact (askOrdinary_calm _ _).places hmerged
  · exact hmerged

theorem create_table_law {c : Collector} {i : Insert} {id : Nat} {sleeping : Bool} (hi : laneFilled i.bytes = true)
    (hnew : i.key ∉ c.table.map (·.key)) (hc : c.TableLaw) : (c.create i id sleeping).TableLaw := by
  have hmade : TableLaw { c with
      table := c.table ++
        [{ id := id, key := i.key, data := mergeBeat emptyBeat i.lane i.bytes, age := 0, flush := .held }] } := by
    refine ⟨?_, fun x hx => ?_⟩
    · rw [List.map_append, List.map_singleton]
      exact hc.keys.append (List.nodup_singleton _) (by simpa using hnew)
    · rcases List.mem_append.1 hx with hx | hx
      · exact hc.filled x hx
      · rw [List.mem_singleton.1 hx]; exact beatFilled_mergeBeat hi
  unfold create
  dsimp only
  split
  · exact (askOrdinary_calm _ _).tableLaw hmade
  · exact hmade

theorem create_places {c : Collector} {i : Insert} {id : Nat} {sleeping : Bool} (hroom : c.tableRoom = true) (hc : c.Places) :
    (c.create i id sleeping).Places := by
  have hmade : Places { c with
      table := c.table ++
        [{ id := id, key := i.key, data := mergeBeat emptyBeat i.lane i.bytes, age := 0, flush := .held }] } := by
    have := tableRoom_iff.1 hroom
    exact ⟨by simp only [List.length_append, List.length_singleton, Config.tablePlaces]; omega, hc.ordinary, hc.priority⟩
  unfold create
  dsimp only
  split
  · exact (askOrdinary_calm _ _).places hmade
  · exact hmade

/-- What an insert can come to: a merge, a new entry after an eviction or without one, or no entry. -/
theorem insert_cases (c : Collector) (i : Insert) (id : Nat) (sleeping : Bool) :
    (∃ e, c.entryFor i.key = some e ∧ (c.insert i id sleeping).collector = c.merge i e) ∨
      (∃ d, c.entryFor i.key = none ∧ c.Calm d ∧ d.tableRoom = true ∧ (c.insert i id sleeping).collector = d.create i id sleeping) ∨
      c.Calm (c.insert i id sleeping).collector := by
  unfold insert
  split
  · next e he => exact .inl ⟨e, he, rfl⟩
  · next he =>
    split
    · next hroom => exact .inr (.inl ⟨c, he, .refl c, hroom, rfl⟩)
    · split
      · exact .inr (.inr (.refl c))
      · next oldest _ _ =>
        split
        · dsimp only
          split
          · next hroom => exact .inr (.inl ⟨c.askOrdinary oldest.id, he, c.askOrdinary_calm _, hroom, rfl⟩)
          · exact .inr (.inr (c.askOrdinary_calm _))
        · exact .inr (.inr (.refl c))
        · exact .inr (.inr (.refl c))

theorem key_notMem_of_entryFor {c : Collector} {k : Key} (h : c.entryFor k = none) : k ∉ c.table.map (·.key) := by
  intro hk
  obtain ⟨e, he, rfl⟩ := List.mem_map.1 hk
  simpa using List.find?_eq_none.1 h e he

theorem Calm.key_notMem {c d : Collector} {k : Key} (h : c.Calm d) (hk : k ∉ c.table.map (·.key)) : k ∉ d.table.map (·.key) := by
  have hkeys : (d.table.map (·.key)).Sublist (c.table.map (·.key)) := by
    simpa [List.map_map, Function.comp_def] using h.table.map Prod.fst
  exact fun hd => hk (hkeys.subset hd)

theorem insert_tableLaw {c : Collector} {i : Insert} {id : Nat} {sleeping : Bool} (hi : laneFilled i.bytes = true) (hc : c.TableLaw) :
    (c.insert i id sleeping).collector.TableLaw := by
  obtain ⟨e, -, h⟩ | ⟨d, hnone, hcalm, -, h⟩ | h := c.insert_cases i id sleeping
  · exact h ▸ merge_table_law hi hc
  · exact h ▸ create_table_law hi (hcalm.key_notMem (key_notMem_of_entryFor hnone)) (hcalm.tableLaw hc)
  · exact h.tableLaw hc

theorem insert_places {c : Collector} {i : Insert} {id : Nat} {sleeping : Bool} (hc : c.Places) :
    (c.insert i id sleeping).collector.Places := by
  obtain ⟨e, -, h⟩ | ⟨d, -, hcalm, hroom, h⟩ | h := c.insert_cases i id sleeping
  · exact h ▸ merge_places hc
  · exact h ▸ create_places hroom (hcalm.places hc)
  · exact h.places hc

end Sys2Proof.Machine.Collector
end

section
/-! What ends a step, and the request path, as moves (3.5 to 3.6, 6.7 to 6.8, 9.3). -/

namespace Sys2Proof.Machine

/-! ### Swap controller -/

theorem State.slot_of_boundLayout {s : State} {p : Plane} {l : Layout} (h : s.boundLayout p = some l) :
    (s.planes.entry p).binding.isSome = true := by
  unfold State.boundLayout at h
  split at h
  · cases h
  · next i hi => rw [hi]; rfl

theorem State.arm_reaches {s : State} (cause : ArmCause) (hsteady : s.planes.switch = .steady)
    (hbound : (s.planes.entry s.planes.idle).binding.isSome = true) : Reaches s (s.arm cause) := by
  have harms (u : State) (hu : u.planes = s.planes) (r : ArmRecord) (htarget : r.target = s.planes.idle)
      (hmoved : r.selectMoved = false) : Reaches u (u.setSwitch (.armed r)) :=
    (Move.arms (hu ▸ hsteady) (hu ▸ hbound) (hu ▸ htarget) hmoved).reaches
  exact ((Move.collectorCalm (Collector.drain_calm _ _ _ _)).reaches.trans (harms
    { s with collector := s.collector.drain s.planes.idle s.nextId (s.flying (Flight.flushOf s.planes.idle)) } rfl
    { cause := cause, target := s.planes.idle, commit := s.nextId, limit := s.planes.swapLimit,
      collectorWaiting := (s.collector.drain s.planes.idle s.nextId (s.flying (Flight.flushOf s.planes.idle))).draining s.nextId,
      pathWaiting := s.straightSegments s.planes.idle, selectMoved := false } rfl rfl)).to rfl

theorem State.requestGuard_reaches {s : State} (hbound : (s.planes.entry s.planes.scanned).binding.isSome = true) :
    Reaches s (s.requestGuard s.planes.scanned) := by
  unfold State.requestGuard
  split
  · exact .refl s
  · next hnone =>
    split
    · exact s.report_reaches _
    · next hroom => exact (Move.guardJoins (by simpa using hroom) (by simpa [FillJob.isGuard] using hnone) hbound).reaches

theorem State.guardFor_reaches (s : State) (p : Posture) : Reaches s (s.guardFor p) := by
  unfold State.guardFor
  split
  · exact .refl s
  · next l hl =>
    split
    · exact .refl s
    · split
      · exact State.requestGuard_reaches (State.slot_of_boundLayout hl)
      · exact .refl s

theorem State.unserved_reaches (s : State) (p : Posture) : Reaches s (s.unserved p) :=
  (s.report_reaches _).trans (State.guardFor_reaches _ p)

theorem State.withdraw_reaches {s : State} {r : ArmRecord} (h : s.planes.switch = .armed r) (hmoved : r.selectMoved = false) :
    Reaches s s.withdraw := (Move.withdraws h hmoved).reaches

/-- R112: what the IDLE plane serves it is bound for. -/
theorem State.idle_bound_of_service {s : State} {p : Posture} (h : s.service p = .idle) :
    (s.planes.entry s.planes.idle).binding.isSome = true := by
  unfold State.service at h
  split at h
  · cases h
  · split at h
    · cases h
    · split at h
      · next hb => rw [hb]; rfl
      · cases h

theorem State.reevaluate_reaches (s : State) : Reaches s s.reevaluate := by
  unfold State.reevaluate
  split
  · exact .refl s
  · next p _ =>
    split
    · exact .refl s
    · next hsteady hserved => exact State.arm_reaches .auto hsteady (State.idle_bound_of_service hserved)
    · exact s.unserved_reaches p
    · next r _ harmed =>
      split
      · exact .refl s
      · next hmoved => exact State.withdraw_reaches harmed hmoved
      · exact .refl s
      · exact .refl s
      · next hmoved => exact (State.withdraw_reaches harmed hmoved).trans (State.unserved_reaches _ p)
      · exact s.unserved_reaches p

theorem State.swapDone_leads {s : State} {r : ArmRecord} (h : s.planes.switch = .armed r) : Leads s (s.swapDone r) :=
  (Move.swaps h).leads.trans (State.report_reaches _ _).leads

/-- R106: the select line has moved before. -/
theorem State.swapDone_reaches {s : State} {r : ArmRecord} (h : s.planes.switch = .armed r) (hmoved : r.selectMoved = true) :
    Reaches s (s.swapDone r) := by
  refine ((Move.swaps h).reaches fun hlaw => ?_).trans (State.report_reaches _ _)
  simp only [State.switchLaw, h, hmoved] at hlaw
  exact hlaw.2.2.symm

theorem State.finishSwap_leads {s : State} {r : ArmRecord} (h : s.planes.switch = .armed r) : Leads s (s.finishSwap r) :=
  (State.swapDone_leads h).trans (State.reevaluate_reaches _).leads

theorem State.finishSwap_reaches {s : State} {r : ArmRecord} (h : s.planes.switch = .armed r) (hmoved : r.selectMoved = true) :
    Reaches s (s.finishSwap r) := (State.swapDone_reaches h hmoved).trans (State.reevaluate_reaches _)

theorem State.armed_of_swapDue {s : State} {r : ArmRecord} (h : s.swapDue = some r) : s.planes.switch = .armed r := by
  unfold State.swapDue at h
  split at h
  · cases h
  · next q hq =>
    split at h
    · rw [hq, Option.some.inj h]
    · cases h

theorem State.settleSwaps_leads (n : Nat) (s : State) : Leads s (State.settleSwaps n s) := by
  induction n generalizing s with
  | zero => exact .refl s
  | succ n ih =>
    unfold State.settleSwaps
    split
    · exact .refl s
    · next r hr => exact (State.finishSwap_leads (State.armed_of_swapDue hr)).trans (ih _)

/-- What both resets do to an armed swap (R114, R115). -/
theorem State.resetSwitch_reaches (s : State) : Reaches s s.resetSwitch.1 := by
  unfold State.resetSwitch
  split
  · exact .refl s
  · next r hr =>
    split
    · next hmoved => exact State.swapDone_reaches hr hmoved
    · next hmoved => exact State.withdraw_reaches hr (by simpa using hmoved)

theorem State.noteDrains_reaches (s : State) : Reaches s s.noteDrains := by
  unfold State.noteDrains
  split
  · exact .refl s
  · next r hr => exact (Move.notes (r' := { r with collectorWaiting := r.collectorWaiting && s.collector.draining r.commit }) hr rfl
      rfl).reaches

theorem State.noteSegment_reaches (s : State) (id : Nat) : Reaches s (s.noteSegment id) := by
  unfold State.noteSegment
  split
  · exact .refl s
  · next r hr => exact (Move.notes (r' := { r with pathWaiting := r.pathWaiting.filter (· ≠ id) }) hr rfl rfl).reaches

/-! ### Lanes with an enabled byte (R45, R55) -/

theorem laneFilled_gainLane (spine : Option Spine) (x : Nat) (l : MaskedLane) :
    laneFilled (gainLane spine x l) = laneFilled l := by
  unfold gainLane
  split
  · rfl
  · split <;> simp [laneFilled, Quad.any]

theorem State.HandsFilled.congr {s t : State} (h : t.translator = s.translator) (ht : t.HandsFilled) : s.HandsFilled :=
  fun job hjob => ht job (h.trans hjob)

/-- R45: a lane without an enabled byte makes no step. -/
theorem laneSteps_filled (layout : Option Layout) (lanes : List (Nat × MaskedLane)) (lane : PlacedLane)
    (h : LaneStep.turned lane ∈ laneSteps layout lanes) : laneFilled lane.bytes = true := by
  induction lanes with
  | nil => cases h
  | cons x rest ih =>
    change LaneStep.turned lane ∈ consStep layout x (laneSteps layout rest) at h
    unfold consStep at h
    split at h
    · next hx =>
      split at h
      · exact ih (by simpa using h)
      · exact ih (by simpa using h)
      · exact ih (by simpa using h)
      · dsimp only at h
        split at h
        · rcases List.mem_cons.1 h with h | h
          · cases h; exact hx
          · exact ih h
        · split at h
          · next hrest =>
            split at h
            · exact ih (hrest ▸ List.mem_cons_of_mem _ ((List.mem_cons.1 h).resolve_left (by simp)))
            · exact ih ((List.mem_cons.1 h).resolve_left (by simp))
          · exact ih ((List.mem_cons.1 h).resolve_left (by simp))
    · exact ih h

/-! ### Request path -/

theorem State.takeInHand_reaches {s : State} {plane : Plane} {layout : Option Layout} {steps : List LaneStep}
    (h : s.HandsFilled → ∀ lane, LaneStep.turned lane ∈ steps → laneFilled lane.bytes = true) :
    Reaches s (s.takeInHand plane layout steps) := by
  induction steps generalizing s with
  | nil => exact (Move.translatorRests (by simp)).reaches
  | cons x rest ih =>
    have hrest : s.HandsFilled → ∀ lane, LaneStep.turned lane ∈ rest → laneFilled lane.bytes = true :=
      fun hs lane hl => h hs lane (List.mem_cons_of_mem _ hl)
    cases x with
    | orphan =>
      exact ((Move.count s .orphan 1).reaches.trans (State.report_reaches _ .orphan)).trans
        (ih fun hs => hrest (hs.congr (by simp)))
    | padding => exact (Move.count s .padding 1).reaches.trans (ih fun hs => hrest (hs.congr rfl))
    | run v r lanes =>
      refine (s.reportSaturations_reaches _).trans (Move.inHand fun hs => ⟨fun i w hi => ?_, ?_⟩).reaches
      · cases hi
      · exact hrest (hs.congr (by simp))
    | turned lane =>
      refine (s.reportSaturations_reaches _).trans (Move.inHand fun hs => ⟨fun i w hi => ?_, ?_⟩).reaches
      · cases hi
        exact (laneFilled_gainLane _ _ _).trans (h (hs.congr (by simp)) lane (List.mem_cons_self ..))
      · exact hrest (hs.congr (by simp))

theorem State.enquire_reaches (s : State) (job : ReadJob) : Reaches s (s.enquire job) := by
  unfold State.enquire
  split
  · exact (Move.translatorRests (by simp)).reaches
  · dsimp only
    split
    · exact (Move.translatorRests (by simp)).reaches
    · exact (Move.collectorCalm (Collector.requestPriority_calm _ _)).reaches.trans (Move.translatorRests (by simp)).reaches

@[simp] theorem State.setAssembled_ruled (s : State) (id i : Nat) (qs : List (Quad LaneSource)) :
    (s.setAssembled id i qs).ruled = s.ruled := by
  induction qs generalizing s i with
  | nil => rfl
  | cons q rest ih =>
    unfold State.setAssembled
    split
    · rw [ih]; rfl
    · exact ih s (i + 1)

@[simp] theorem State.sendUpstream_ruled (s : State) : s.sendUpstream.ruled = s.ruled := rfl

theorem State.translatePiece_reaches (s : State) (plane : Plane) (piece : Piece) (response : Option Nat) :
    Reaches s (s.translatePiece plane piece response) := by
  unfold State.translatePiece
  dsimp only
  split
  · exact State.takeInHand_reaches fun _ => laneSteps_filled _ _
  · split
    · exact (Reaches.same (by simp)).trans (Move.translatorRests (by simp)).reaches
    · exact (Reaches.same (by simp)).trans (State.enquire_reaches _ _)

theorem State.workOn_reaches (s : State) (hold : RouterHold) (ps : List Piece) : Reaches s (s.workOn hold ps) := by
  induction ps generalizing s with
  | nil => exact .same rfl
  | cons p rest ih =>
    unfold State.workOn
    dsimp only
    have hheld : Reaches s { s with router := some { hold with pieces := p :: rest } } := .same rfl
    split
    · split
      · exact (hheld.trans (State.translatePiece_reaches _ _ _ _)).trans (ih _)
      · exact hheld.trans (State.translatePiece_reaches _ _ _ _)
    all_goals exact hheld

theorem State.pieceHandedOn_reaches (s : State) : Reaches s s.pieceHandedOn := by
  unfold State.pieceHandedOn
  split
  · exact .refl s
  · exact s.workOn_reaches _ _

theorem State.handedOnIfIdle_reaches (s : State) : Reaches s s.handedOnIfIdle := by
  unfold State.handedOnIfIdle
  split
  · exact s.pieceHandedOn_reaches
  · exact .refl s

/-- R56: the translator goes on with the lanes of the job it had. -/
theorem State.goOn_reaches {s : State} {job : WriteJob} (h : s.translator = .writing job) : Reaches s (s.goOn job) :=
  (State.takeInHand_reaches fun hs => (hs job h).todo).trans (State.handedOnIfIdle_reaches _)

theorem State.offerInsert_reaches {s : State} {job : WriteJob} {i : Insert} {w : Bool} (h : s.translator = .writing job)
    (hand : job.hand = .insert i w) : Reaches s (s.offerInsert job i) := by
  have hinserted : Reaches s { s with
      collector := (s.collector.insert i s.nextId (decide (s.front.link = .sleepDrain))).collector
      nextId := if (s.collector.insert i s.nextId (decide (s.front.link = .sleepDrain))).created then s.nextId + 1 else s.nextId } :=
    (Move.inserts fun hs => (hs job h).hand i w hand).reaches.to rfl
  have waits (t : State) (ht : t.translator = .writing job) :
      Reaches t { t with translator := .writing { job with hand := .insert i true } } := by
    refine (Move.inHand (job := { job with hand := .insert i true }) fun hs => ⟨fun i' w' hi' => ?_, (hs job ht).todo⟩).reaches
    cases hi'
    exact (hs job ht).hand i w hand
  unfold State.offerInsert
  dsimp only
  split <;> split
  · exact (hinserted.trans (Move.count _ .eviction 1).reaches).trans (State.goOn_reaches h)
  · exact hinserted.trans (State.goOn_reaches h)
  · exact (hinserted.trans (Move.count _ .eviction 1).reaches).trans (waits _ h)
  · exact hinserted.trans (waits _ h)

theorem State.retryInsert_reaches (s : State) : Reaches s s.retryInsert := by
  unfold State.retryInsert
  split
  · next job hjob =>
    split
    · next i hi =>
      split
      · exact State.offerInsert_reaches hjob hi
      · exact .refl s
    · exact .refl s
    · exact .refl s
  all_goals exact .refl s

theorem State.placeSegment_reaches {s : State} (kind : SegmentKind) (addr : Nat) (payload : Payload) (h : s.outputRoom = true) :
    Reaches s (s.placeSegment kind addr payload) := (Move.segmentJoins h).reaches.to rfl

theorem State.placeRead_reaches {s : State} {job : ReadJob} (h : s.outputRoom = true) : Reaches s (s.placeRead job) := by
  unfold State.placeRead
  split
  · exact .refl s
  · exact (State.placeSegment_reaches _ _ _ h).trans (State.enquire_reaches _ _)

theorem State.releaseRead_reaches (s : State) (id : Nat) : Reaches s (s.releaseRead id) := by
  unfold State.releaseRead
  split
  · split
    · split
      · next hroom => exact State.placeRead_reaches hroom
      · exact (Move.translatorRests (by simp)).reaches
    · exact (Move.translatorRests (by simp)).reaches
  all_goals exact .refl s

theorem State.finishRead_reaches (s : State) : Reaches s s.finishRead := by
  unfold State.finishRead
  split
  · split
    · exact (Move.translatorRests (x := .idle) (by simp)).reaches.trans (State.pieceHandedOn_reaches _)
    · exact .refl s
  all_goals exact .refl s

theorem State.mapRead_reaches (s : State) (f : ReadJob → ReadJob) : Reaches s { s with translator := s.translator.mapRead f } := by
  cases h : s.translator with
  | writing job => exact .same (by rw [State.ruled, State.ruled, h]; rfl)
  | idle => exact (Move.translatorRests (by simp [Translator.mapRead])).reaches
  | readIssue job => exact (Move.translatorRests (by simp [Translator.mapRead])).reaches
  | readHeld job matched => exact (Move.translatorRests (by simp [Translator.mapRead])).reaches
  | readWait job => exact (Move.translatorRests (by simp [Translator.mapRead])).reaches

theorem State.assemble_reaches (s : State) (segment beat : Nat) (data : DataBeat) : Reaches s (s.assemble segment beat data) := by
  unfold State.assemble
  dsimp only
  split
  · exact s.mapRead_reaches _
  · exact ((s.mapRead_reaches fun job => job.fill segment beat data).to (by simp)).trans (State.finishRead_reaches _)

/-! ### Grants and the end of a step -/

theorem State.grant_reaches (s : State) (x : Source) : Reaches s (s.grant x) := by
  cases x
  case fetch =>
    simp only [State.grant, State.grantFetch]
    split
    · exact .refl s
    · next l hl => exact (Move.loadGoesOn (l' := { l with phase := .inFlight, data := [] }) hl rfl fun h => h).reaches.to rfl
  case record => exact .same rfl
  case priority =>
    simp only [State.grant, State.grantPriority]
    split
    · exact .refl s
    · next w rest hw =>
      exact (Move.collectorCalm ((Collector.priorityLeaves_calm hw).trans (Collector.advance_calm _))).reaches.to rfl
  case path =>
    simp only [State.grant, State.grantPath]
    split
    · exact .refl s
    · next x rest hx => exact (Move.segmentsLeave (hx ▸ List.suffix_cons x rest)).reaches.to rfl
  case ordinary =>
    simp only [State.grant, State.grantOrdinary]
    split
    · exact .refl s
    · next w rest hw =>
      exact (Move.collectorCalm ((Collector.ordinaryLeaves_calm hw).trans (Collector.advance_calm _))).reaches.to rfl
  case fill =>
    simp only [State.grant, State.grantFill]
    split
    · exact .refl s
    · exact .same rfl

theorem State.choicePoint_reaches (s : State) : Reaches s s.choicePoint := by
  unfold State.choicePoint
  split
  · exact .refl s
  · unfold State.grantPick
    split
    · exact .refl s
    · exact s.grant_reaches _

theorem State.conclude_leads (s : State) : Leads s s.conclude :=
  (State.settleSwaps_leads 2 s).trans
    (((State.retryInsert_reaches _).trans (State.choicePoint_reaches _)).trans (State.retryInsert_reaches _)).leads

theorem State.completionChoice_reaches (before s : State) : Reaches s (State.completionChoice before s) := by
  unfold State.completionChoice
  split
  · exact (s.grant_reaches _).to rfl
  · exact s.choicePoint_reaches.to rfl

@[simp] theorem State.orderOffers_ruled (before s : State) : (State.orderOffers before s).ruled = s.ruled := by
  obtain ⟨b, n, h⟩ := State.orderOffers_eq before s
  rw [h]; rfl

/-- What ends a step in which a burst completes, after the swaps then due. -/
theorem State.concludeCompletion_leads (before s : State) : Leads s (State.concludeCompletion before s) :=
  (State.settleSwaps_leads 2 s).trans
    (((State.retryInsert_reaches _).trans (State.completionChoice_reaches before _)).trans
      ((State.retryInsert_reaches _).trans (.same (State.orderOffers_ruled before _)))).leads

/-- What a command answers comes by moves of what it does itself. -/
theorem Act.answer_leads {before t : State} {a : Act} (h : a.answer before = .next t) : Leads a.state t := by
  cases a with
  | still s => cases h; exact .refl _
  | concluded s => cases h; exact s.conclude_leads
  | completed s => cases h; exact State.concludeCompletion_leads before s

end Sys2Proof.Machine
end

section
/-! What the swap, the re-evaluation of the posture and the swaps at the end of a step leave alone (R106, R107, R111 to R113). -/

namespace Sys2Proof.Machine

/-- The parts that no swap and no re-evaluation touches. -/
structure Beside where
  front : FrontEnd
  router : Option RouterHold
  outQueue : List Segment
  responses : List Response
  sentUpstream : List DataBeat
  translator : Translator
  layouts : LayoutTable
  a : PlaneEntry
  b : PlaneEntry
  burst : Option FillBurst
  paused : Bool
  pauseAsked : Bool
  port : Option Flight
  pointer : Ring
  counters : Counters
  freeCount : Nat

def State.beside (s : State) : Beside where
  front := s.front
  router := s.router
  outQueue := s.outQueue
  responses := s.responses
  sentUpstream := s.sentUpstream
  translator := s.translator
  layouts := s.layouts
  a := s.planes.a
  b := s.planes.b
  burst := s.fill.burst
  paused := s.fill.paused
  pauseAsked := s.fill.pauseAsked
  port := s.port
  pointer := s.pointer
  counters := s.status.counters
  freeCount := s.freeCount

theorem State.entry_of_beside {s t : State} (h : t.beside = s.beside) (p : Plane) : t.planes.entry p = s.planes.entry p := by
  cases p
  · exact congrArg Beside.a h
  · exact congrArg Beside.b h

@[simp] theorem State.report_beside (s : State) (f : EventFlag) : (s.report f).beside = s.beside := by
  obtain ⟨fl, w, b, h⟩ := s.report_eq f
  rw [h]; rfl

/-! ### What a report does to the record write -/

/-- R171: a cause changes neither a write that is due or stands as an offer, nor one that is to be written again. -/
def CauseTold (s t : State) : Prop := s.status.write ≠ .quiet → s.status.write ≠ .writing → t.status.write = s.status.write

theorem CauseTold.refl (s : State) : CauseTold s s := fun _ _ => rfl

theorem CauseTold.of_eq {s t : State} (h : t.status.write = s.status.write) : CauseTold s t := fun _ _ => h

theorem CauseTold.trans {s t u : State} (h : CauseTold s t) (k : CauseTold t u) : CauseTold s u := fun hquiet hwriting => by
  have ht := h hquiet hwriting
  rw [← ht] at hquiet hwriting ⊢
  exact k hquiet hwriting

theorem State.recordCause_causeTold (s : State) : CauseTold s s.recordCause := by
  intro hquiet hwriting
  unfold State.recordCause
  split
  · next h => exact absurd h hquiet
  · rfl
  · rfl
  · next h => exact absurd h hwriting
  · rfl

theorem State.report_causeTold (s : State) (f : EventFlag) : CauseTold s (s.report f) := by
  unfold State.report
  split
  · exact .refl s
  · exact State.recordCause_causeTold { s with status := { s.status with flags := s.status.flags ||| f.mask } }

/-! ### Swaps and re-evaluation -/

/-- A report, or a change of what swaps and re-evaluation are about. -/
inductive SwapStep : State → State → Prop
  | report (s : State) (f : EventFlag) : SwapStep s (s.report f)
  | goes {s t : State} (h : t.beside = s.beside) (hstatus : t.status = s.status) : SwapStep s t

def SwapSteps (s t : State) : Prop := Relation.ReflTransGen SwapStep s t

theorem SwapSteps.refl (s : State) : SwapSteps s s := Relation.ReflTransGen.refl

theorem SwapSteps.trans {s t u : State} (h : SwapSteps s t) (k : SwapSteps t u) : SwapSteps s u := Relation.ReflTransGen.trans h k

theorem SwapStep.steps {s t : State} (h : SwapStep s t) : SwapSteps s t := Relation.ReflTransGen.single h

theorem SwapSteps.goes {s t u : State} (h : SwapSteps s t) (hbeside : u.beside = t.beside := by rfl)
    (hstatus : u.status = t.status := by rfl) :
    SwapSteps s u := h.trans (SwapStep.goes hbeside hstatus).steps

theorem State.swapDone_steps (s : State) (r : ArmRecord) : SwapSteps s (s.swapDone r) :=
  (SwapSteps.goes (u := { s with planes := { s.planes with scanned := r.target, select := r.target, switch := .steady } })
    (.refl s)).trans (SwapStep.report _ _).steps

theorem State.requestGuard_steps (s : State) (p : Plane) : SwapSteps s (s.requestGuard p) := by
  unfold State.requestGuard
  split
  · exact .refl s
  · split
    · exact (SwapStep.report s _).steps
    · exact (SwapSteps.refl s).goes

theorem State.unserved_steps (s : State) (p : Posture) : SwapSteps s (s.unserved p) := by
  have hreport : SwapSteps s (s.report .unserved) := (SwapStep.report s _).steps
  unfold State.unserved State.guardFor
  split
  · exact hreport
  · split
    · exact hreport
    · split
      · exact hreport.trans (State.requestGuard_steps _ _)
      · exact hreport

theorem State.withdraw_steps (s : State) : SwapSteps s s.withdraw := (SwapSteps.refl s).goes

theorem State.reevaluate_steps (s : State) : SwapSteps s s.reevaluate := by
  unfold State.reevaluate
  split
  · exact .refl s
  · split
    · exact .refl s
    · exact (SwapSteps.refl s).goes
    · exact s.unserved_steps _
    · split
      · exact .refl s
      · exact s.withdraw_steps
      · exact .refl s
      · exact .refl s
      · exact s.withdraw_steps.trans (State.unserved_steps _ _)
      · exact s.unserved_steps _

theorem State.finishSwap_steps (s : State) (r : ArmRecord) : SwapSteps s (s.finishSwap r) :=
  (s.swapDone_steps r).trans (State.reevaluate_steps _)

theorem State.settleSwaps_steps (n : Nat) (s : State) : SwapSteps s (State.settleSwaps n s) := by
  induction n generalizing s with
  | zero => exact .refl s
  | succ n ih =>
    unfold State.settleSwaps
    split
    · exact .refl s
    · exact (s.finishSwap_steps _).trans (ih _)

theorem SwapSteps.beside {s t : State} (h : SwapSteps s t) : t.beside = s.beside := by
  induction h with
  | refl => rfl
  | tail _ hstep ih =>
    cases hstep with
    | report f => rw [State.report_beside, ih]
    | goes h _ => rw [h, ih]

theorem SwapSteps.causeTold {s t : State} (h : SwapSteps s t) : CauseTold s t := by
  induction h with
  | refl => exact .refl s
  | tail _ hstep ih =>
    cases hstep with
    | report f => exact ih.trans (State.report_causeTold _ f)
    | goes _ hstatus => exact ih.trans (.of_eq (congrArg StatusWriter.write hstatus))

end Sys2Proof.Machine
end

section
/-! The checks of a load (R32 to R37): what each gives of the staging copy, and of the layout they let be installed. -/

namespace Sys2Proof.Machine

/-! ### Field checks -/

theorem Staging.cleared_sound : Staging.cleared.Sound where
  places := rfl
  head := nofun
  views := fun k v h => by
    have hmem : some v ∈ List.replicate 6 (none : Option View) := List.mem_of_getElem? h
    exact absurd (List.eq_of_mem_replicate hmem) (by simp)
  spine := nofun
  guard := nofun

theorem checkHead_sound {st st' : Staging} {bytes : List Byte} (hst : st.Sound) (h : checkHead st bytes = .ok st') : st'.Sound := by
  simp only [checkHead] at h
  split at h
  · next hd =>
    cases h
    exact ⟨hst.places, fun head hh => by cases hh; exact hd, hst.views, hst.spine, hst.guard⟩
  · cases h

theorem checkView_sound {st st' : Staging} {bytes : List Byte} (hst : st.Sound) (h : checkView st bytes = .ok st') : st'.Sound := by
  simp only [checkView] at h
  split at h
  · cases h
  · next r _ =>
    split at h
    · next hv =>
      cases h
      refine ⟨by simpa using hst.places, hst.head, fun k v hk => ?_, hst.spine, hst.guard⟩
      rw [List.getElem?_set] at hk
      split at hk
      · next hnumber =>
        split at hk
        · obtain rfl : viewOf bytes r = v := by simpa using hk
          exact ⟨hnumber, hv.2⟩
        · cases hk
      · exact hst.views k v hk
    · cases h

theorem checkSpine_sound {st st' : Staging} {bytes : List Byte} (hst : st.Sound) (h : checkSpine st bytes = .ok st') : st'.Sound := by
  simp only [checkSpine] at h
  split at h
  · next hsp =>
    obtain ⟨hlow, hhigh, hmod, hknots⟩ := hsp
    cases h
    refine ⟨hst.places, hst.head, hst.views, fun sp h => ?_, hst.guard⟩
    cases h
    exact ⟨hlow, hhigh, hmod, by simpa [spineOf] using hknots⟩
  · cases h

theorem checkGuard_sound {st st' : Staging} {bytes : List Byte} (hst : st.Sound) (h : checkGuard st bytes = .ok st') : st'.Sound := by
  simp only [checkGuard] at h
  split at h
  · next hg =>
    obtain ⟨hon, hlow, hhigh, hrects⟩ := hg
    cases h
    refine ⟨hst.places, hst.head, hst.views, hst.spine, fun g h => ?_⟩
    cases h
    exact ⟨hon, by simpa [guardOf] using hlow, by simpa [guardOf] using hhigh, by simpa using hrects⟩
  · cases h

/-- R31: a record that passes its field checks leaves the staging copy sound. -/
theorem checkFields_sound {kind : RecordKind} {st st' : Staging} {bytes : List Byte} (hst : st.Sound)
    (h : checkFields kind st bytes = .ok st') : st'.Sound := by
  cases kind with
  | head => exact checkHead_sound hst h
  | view => exact checkView_sound hst h
  | spine => exact checkSpine_sound hst h
  | guard => exact checkGuard_sound hst h

/-! ### Whole-layout checks -/

/-- Elements that stand apart do not meet pairwise. -/
theorem apart_iff {α : Type} {meet : α → α → Bool} {l : List α} : apart meet l = true ↔ l.Pairwise fun a b => meet a b = false := by
  induction l with
  | nil => simp [apart]
  | cons a rest ih => simp [apart, ih]

/-- R37: the filled view places in their order. -/
theorem Staging.Sound.viewList_order {st : Staging} (h : st.Sound) : st.viewList.Pairwise fun v w => v.number < w.number := by
  refine List.pairwise_filterMap.2 (List.pairwise_iff_getElem.2 fun i j hi hj hij v hv w hw => ?_)
  have hv' : v.number = i := (h.views i v (by rw [List.getElem?_eq_getElem hi]; exact congrArg some hv)).1
  have hw' : w.number = j := (h.views j w (by rw [List.getElem?_eq_getElem hj]; exact congrArg some hw)).1
  omega

theorem Staging.Sound.viewList_placed {st : Staging} (h : st.Sound) {v : View} (hv : v ∈ st.viewList) :
    v.number < 6 ∧ v.wellPlaced = true := by
  obtain ⟨o, ho, hov⟩ := List.mem_filterMap.1 hv
  obtain ⟨k, hk⟩ := List.getElem?_of_mem ho
  obtain rfl : o = some v := hov
  obtain ⟨hnumber, hplaced⟩ := h.views k v hk
  have : k < st.views.length := (List.getElem?_eq_some_iff.1 hk).1
  have := h.places
  exact ⟨by omega, hplaced⟩

/-- R36, R37: what passes the whole-layout checks is a sound layout. -/
theorem checkWhole_sound {st : Staging} {l : Layout} (hst : st.Sound) (h : checkWhole st = .ok l) : l.Sound := by
  unfold checkWhole at h
  split at h
  · cases h
  · next head hhead =>
    split_ifs at h with hcount hspines hguards hwindows hrects hspine hguard
    obtain ⟨hdeclared, hlength⟩ := hcount
    obtain ⟨hlow, hhigh⟩ := hst.head head hhead
    cases h
    exact
      { count := by show 1 ≤ st.viewList.length ∧ st.viewList.length ≤ 6; omega
        order := hst.viewList_order
        placed := fun v hv => hst.viewList_placed hv
        windows := apart_iff.1 (by simpa using hwindows)
        rects := List.pairwise_map.1 (apart_iff.1 (by simpa using hrects))
        spine := fun sp hsp => by
          obtain hsp : st.spine = some sp := hsp
          exact ⟨hst.spine sp hsp, by simpa [hsp] using hspine⟩
        guard := fun g hg => by
          obtain hg : st.guard = some g := hg
          exact ⟨hst.guard g hg, by simpa [hg] using hguard⟩ }

/-! ### The walk -/

theorem checkLink_install {st : Staging} {fetched : Nat} {bytes : List Byte} {layout : Layout}
    (h : checkLink st fetched bytes = .install layout) : checkWhole st = .ok layout := by
  unfold checkLink at h
  split at h
  · cases h
  · split at h
    · next hl => cases h; exact hl
    · cases h
  · split_ifs at h

theorem checkRecord_staging_sound {l : Load} (bytes : List Byte) (h : l.staging.Sound) : (checkRecord l bytes).1.Sound := by
  unfold checkRecord
  split
  · split
    · exact h
    · next hfields => exact checkFields_sound h hfields
  · exact h

/-- A layout is installed only where every record of it and the whole of it have passed their checks. -/
theorem checkRecord_install_sound {l : Load} {bytes : List Byte} {layout : Layout} (h : l.staging.Sound)
    (hinstall : (checkRecord l bytes).2 = .install layout) : layout.Sound := by
  unfold checkRecord at hinstall
  split at hinstall
  · split at hinstall
    · cases hinstall
    · next hfields => exact checkWhole_sound (checkFields_sound h hfields) (checkLink_install hinstall)
  · cases hinstall

end Sys2Proof.Machine
end

section
/-! What each command does itself, as moves: the rows of the opcode table. -/

namespace Sys2Proof.Machine

/-! ### Layout table (2.4 to 2.8) -/

theorem State.endLoad_reaches {s : State} {l : Load} {x : Slot} (r : Result) (h : s.layouts.load = some l)
    (hslot : x = restoredSlot s.layouts.slots[l.slot] ∨ ∃ layout, x = .ready layout ∧ (l.staging.Sound → layout.Sound)) :
    Reaches s (s.endLoad x l.slot r) :=
  (Move.loadEnds h hslot).reaches.to (by simp [State.endLoad]; rfl)

theorem State.abortLoad_reaches (s : State) : Reaches s s.abortLoad := by
  unfold State.abortLoad
  split
  · exact .refl s
  · next l hl => exact State.endLoad_reaches _ hl (.inl rfl)

theorem State.offerFetch_reaches {s : State} {l l' : Load} (h : s.layouts.load = some l) (hslot : l'.slot = l.slot)
    (hstaging : l.staging.Sound → l'.staging.Sound) : Reaches s (s.offerFetch l') :=
  (Move.loadGoesOn (l' := { l' with phase := .offered, data := [] }) h hslot hstaging).reaches.to rfl

theorem State.recordFetched_reaches {s : State} {l : Load} (h : s.layouts.load = some l) : Reaches s (s.recordFetched l) := by
  unfold State.recordFetched
  dsimp only
  split
  · exact State.offerFetch_reaches h rfl fun hl => checkRecord_staging_sound _ hl
  · next layout hinstall =>
    exact State.endLoad_reaches _ h (.inr ⟨layout, rfl, fun hl => checkRecord_install_sound hl hinstall⟩)
  · exact State.endLoad_reaches _ h (.inl rfl)

theorem State.fetchComplete_reaches (s : State) : Reaches s s.fetchComplete := by
  unfold State.fetchComplete
  split
  · exact .refl s
  · next l hl => exact State.recordFetched_reaches hl

theorem State.takeFetchBeat_reaches (s : State) (data : DataBeat) : Reaches s (s.takeFetchBeat data) := by
  unfold State.takeFetchBeat
  split
  · exact .refl s
  · next l hl => exact (Move.loadGoesOn (l' := { l with data := l.data ++ [data] }) hl rfl fun h => h).reaches

/-! ### Fill engine (8.2 to 8.6) -/

theorem State.buildBurst_reaches (s : State) (job : FillJob) (c : Cursor) : Reaches s (s.buildBurst job c) := by
  refine Reaches.trans (Reaches.same ?_) (State.reportSaturations_reaches _ _)
  rfl

@[simp] theorem FillJob.read_plane (job : FillJob) (layout : Option Layout) : (job.read layout).plane = job.plane := by
  unfold FillJob.read
  split
  any_goals rfl
  split <;> rfl

@[simp] theorem FillJob.read_kind (job : FillJob) (layout : Option Layout) : (job.read layout).kind = job.kind := by
  obtain ⟨plane, kind, rects, holes, colour, cursor, written⟩ := job
  unfold FillJob.read
  dsimp only
  split
  any_goals rfl
  split <;> rfl

/-- R146: what the end of the head job leaves, but for its report. -/
theorem State.completeJob_ruled (s : State) (job : FillJob) (rest : List FillJob) :
    (s.completeJob job rest).ruled =
      (if job.kind = .background then (s.setJobs rest).setPending job.plane false else s.setJobs rest).ruled := by
  obtain ⟨fl, w, b, hreport⟩ := State.report_eq (s.setJobs rest) .fillDone
  obtain ⟨plane, kind, rects, holes, colour, cursor, written⟩ := job
  unfold State.completeJob
  rw [hreport]
  cases kind <;> rfl

theorem State.completeJob_reaches {s : State} {head job : FillJob} {rest : List FillJob} (h : s.fill.jobs = head :: rest)
    (hplane : job.plane = head.plane) (hkind : job.kind = head.kind) : Reaches s (s.completeJob job rest) :=
  ((Move.headEnds h).reaches fun _ => by split <;> simp).to (by rw [State.completeJob_ruled, hplane, hkind])

theorem State.startJob_reaches {s : State} {job : FillJob} {rest : List FillJob} (h : s.fill.jobs = job :: rest) :
    Reaches s (s.startJob job rest) := by
  unfold State.startJob
  dsimp only
  split
  · exact State.completeJob_reaches h (by simp) (by simp)
  · exact (Move.headMoves h (by simp) (by simp)).reaches.trans (State.buildBurst_reaches _ _ _)

theorem State.takeUpJob_reaches (s : State) : Reaches s s.takeUpJob := by
  unfold State.takeUpJob
  split
  · split
    · exact .refl s
    · next job rest hjobs =>
      split
      · exact State.startJob_reaches hjobs
      · exact s.buildBurst_reaches _ _
  · exact .refl s

theorem State.resumeJob_reaches (s : State) : Reaches s s.resumeJob := by
  unfold State.resumeJob
  split
  · exact .refl s
  · split
    · exact .refl s
    · exact s.takeUpJob_reaches

@[simp] theorem State.settlePause_ruled (s : State) : s.settlePause.ruled = s.ruled := by
  unfold State.settlePause
  split <;> rfl

theorem State.jobAdvanced_reaches {s : State} {job : FillJob} {rest : List FillJob} (h : s.fill.jobs = job :: rest) (n : Nat) :
    Reaches s (s.jobAdvanced job rest n) := by
  unfold State.jobAdvanced
  split
  · exact .same (by simp)
  · dsimp only
    split
    · exact (State.completeJob_reaches (job := { job with beatsWritten := job.beatsWritten + n }) h rfl rfl).to
        (State.settlePause_ruled _)
    · next c' _ =>
      have hmoved : Reaches s
          (s.setJobs ({ job with beatsWritten := job.beatsWritten + n, cursor := some c' } :: rest)).settlePause :=
        (Move.headMoves (job' := { job with beatsWritten := job.beatsWritten + n, cursor := some c' }) h rfl rfl).reaches.to
          (State.settlePause_ruled _)
      split
      · exact hmoved.trans (State.buildBurst_reaches _ _ _)
      · exact hmoved

theorem State.fillWritten_reaches (s : State) : Reaches s s.fillWritten := by
  unfold State.fillWritten
  split
  · exact .refl s
  · dsimp only
    split
    · exact .same (State.settlePause_ruled _)
    · split
      · exact .same (State.settlePause_ruled _)
      · next job rest hjobs =>
        have hempty : Reaches s { s with fill := { s.fill with burst := none } } := .same rfl
        exact hempty.trans (State.jobAdvanced_reaches (s := { s with fill := { s.fill with burst := none } }) hjobs _)

@[simp] theorem State.askPause_ruled (s : State) : s.askPause.ruled = s.ruled := by
  unfold State.askPause
  split <;> rfl

theorem State.endPause_reaches (s : State) : Reaches s s.endPause :=
  Reaches.trans (t := { s with fill := { s.fill with paused := false, pauseAsked := false } }) (.same rfl) (State.resumeJob_reaches _)

/-- R147: the burst in hand is cancelled where the head job is the plane's. -/
def State.cancelHead (s : State) (p : Plane) : State :=
  match s.fill.jobs with
  | [] => s
  | job :: _ => if job.plane = p then s.cancelBurst else s

/-- R147: a plane's jobs have left the queue, and a BACKGROUND job among them has cleared the mark. -/
def State.withoutJobs (s : State) (p : Plane) : State :=
  let left := s.setJobs (s.fill.jobs.filter fun j => j.plane ≠ p)
  if s.fill.jobs.any (FillJob.isBackground p) then left.setPending p false else left

theorem State.withoutJobs_ruled (s : State) (p : Plane) :
    (s.withoutJobs p).ruled =
      { s.ruled with
        planes := s.planes.setEntry p
          { s.planes.entry p with
            backgroundPending := (s.planes.entry p).backgroundPending && !s.fill.jobs.any (FillJob.isBackground p) }
        jobs := s.fill.jobs.filter fun j => j.plane ≠ p } := by
  unfold State.withoutJobs
  dsimp only
  split
  · next h => rw [h]; cases p <;> simp [State.ruled, State.setPending, State.setJobs, Planes.setEntry, Planes.entry]
  · next h => rw [Bool.eq_false_iff.2 h]; cases p <;> simp [State.ruled, State.setJobs, Planes.setEntry, Planes.entry]

theorem State.cancelHead_eq (s : State) (p : Plane) : ∃ b, s.cancelHead p = { s with fill := { s.fill with burst := b } } := by
  unfold State.cancelHead
  split
  · exact ⟨s.fill.burst, rfl⟩
  · split
    · exact s.cancelBurst_eq
    · exact ⟨s.fill.burst, rfl⟩

theorem State.cancelJobs_eq (s : State) (p : Plane) :
    s.cancelJobs p =
      if ((s.cancelHead p).withoutJobs p).fill.pauseAsked && ((s.cancelHead p).withoutJobs p).fill.burst.isNone then
        ((s.cancelHead p).withoutJobs p).settlePause
      else (s.cancelHead p).withoutJobs p := by
  obtain ⟨b, hb⟩ := s.cancelHead_eq p
  have hjobs : (s.cancelHead p).fill.jobs = s.fill.jobs := by rw [hb]
  unfold State.withoutJobs
  rw [hjobs]
  rfl

/-- What the cancellation of a plane's jobs leaves of the jobs and the marks. -/
theorem State.cancelJobs_ruled (s : State) (p : Plane) : (s.cancelJobs p).ruled = (s.withoutJobs p).ruled := by
  have hwithout : (s.cancelJobs p).ruled = ((s.cancelHead p).withoutJobs p).ruled := by
    rw [State.cancelJobs_eq]
    split
    · exact State.settlePause_ruled _
    · rfl
  obtain ⟨b, hb⟩ := s.cancelHead_eq p
  rw [hwithout, hb]
  unfold State.withoutJobs
  dsimp only
  split <;> rfl

theorem State.cancelAllJobs_reaches (s : State) (leavePaused : Bool) : Reaches s (s.cancelAllJobs leavePaused) :=
  (Move.jobsCancelled s).reaches.to rfl

/-! ### Resets, link and timers (1.7, 1.8, 6.7, 7.6) -/

theorem Tracker.latchClosed_sound {t : Tracker} (h : t.Sound) : t.latchClosed.Sound :=
  { h with candidate := nofun }

theorem State.latchRising_reaches (s : State) : Reaches s s.latchRising := by
  have hclosed : Reaches s ({ s with tracker := s.tracker.latchClosed }.report .latch) :=
    (Move.tracks Tracker.latchClosed_sound).reaches.trans (State.report_reaches _ _)
  unfold State.latchRising
  dsimp only
  split
  · exact hclosed
  · exact (hclosed.trans (State.report_reaches _ _)).trans (State.reevaluate_reaches _)

theorem State.release_reaches (s : State) : Reaches s s.release := by
  have htimers : Reaches s
      { s with
        pins := { s.pins with powerOnReset := false }
        frame := { s.frame with scanTimer := some Config.scanStoppedMs }
        tracker := { s.tracker with sampleTimer := some s.tracker.period } } :=
    (Move.tracks (t := { s.tracker with sampleTimer := some s.tracker.period }) fun h => { h with }).reaches.to rfl
  unfold State.release
  dsimp only
  split <;> split
  · exact htimers.trans (State.latchRising_reaches _)
  · exact htimers
  · exact (htimers.to (by rfl)).trans (State.latchRising_reaches _)
  · exact htimers.to rfl

/-- The blocks both resets empty (R16, R17). -/
theorem State.emptyPath_reaches (s : State) : Reaches s s.emptyPath := by
  have h : Reaches s { { { s with inbound := [] } with outQueue := [] } with translator := .idle } :=
    ((Move.inboundLeaves (List.nil_suffix)).reaches.trans (Move.segmentsLeave (List.nil_suffix)).reaches).trans
      (Move.translatorRests (by simp)).reaches
  exact h.to rfl

@[simp] theorem State.disownFlight_ruled (s : State) : s.disownFlight.ruled = s.ruled := rfl

theorem State.abortLoad_load (s : State) : s.abortLoad.layouts.load = none := by
  unfold State.abortLoad
  split
  · next h => exact h
  · next l _ =>
    unfold State.endLoad
    obtain ⟨fl, w, b, h⟩ := State.report_eq
      ({ s.setSlot l.slot (restoredSlot s.layouts.slots[l.slot]) with
          layouts := { (s.setSlot l.slot (restoredSlot s.layouts.slots[l.slot])).layouts with load := none }
          decoder := { (s.setSlot l.slot (restoredSlot s.layouts.slots[l.slot])).decoder with
            busy := false, lastResult := .aborted } } : State).recordCause .loadDone
    obtain ⟨w', b', h'⟩ := State.recordCause_eq
      ({ s.setSlot l.slot (restoredSlot s.layouts.slots[l.slot]) with
          layouts := { (s.setSlot l.slot (restoredSlot s.layouts.slots[l.slot])).layouts with load := none }
          decoder := { (s.setSlot l.slot (restoredSlot s.layouts.slots[l.slot])).decoder with
            busy := false, lastResult := .aborted } } : State)
    dsimp only
    rw [h, h']

/-- R16: every block at the assertion of link reset, before a load is aborted and the switch acts. -/
def State.linkBlocksReset (s : State) : State :=
  { s.emptyPath with
    front := { s.front with link := .resetHold, settleTimer := none }
    collector := s.collector.clear none
    pointer := .path
    status := { s.status with write := s.status.write.linkReset } }

/-- The state the switch finds at the assertion of link reset (log 23). -/
def State.linkResetBeforeSwitch (s : State) : State :=
  let s' := (s.linkBlocksReset.abortLoad.cancelAllJobs false).disownFlight
  { s' with decoder := { s'.decoder with busy := false } }

theorem State.linkReset_eq (s : State) :
    s.linkReset =
      if s.linkResetBeforeSwitch.resetSwitch.2 then s.linkResetBeforeSwitch.resetSwitch.1.reevaluate
      else s.linkResetBeforeSwitch.resetSwitch.1 := rfl

theorem State.linkResetBeforeSwitch_reaches (s : State) : Reaches s s.linkResetBeforeSwitch := by
  have hblocks : Reaches s s.linkBlocksReset :=
    (s.emptyPath_reaches.trans (Move.collectorCalm (Collector.clear_calm _ none)).reaches).to rfl
  have hjobs : Reaches s (s.linkBlocksReset.abortLoad.cancelAllJobs false).disownFlight :=
    (hblocks.trans ((State.abortLoad_reaches _).trans (State.cancelAllJobs_reaches _ false))).to (State.disownFlight_ruled _)
  exact hjobs.trans (Move.rests (s := (s.linkBlocksReset.abortLoad.cancelAllJobs false).disownFlight)
    (State.abortLoad_load s.linkBlocksReset)).reaches

theorem State.linkReset_reaches (s : State) : Reaches s s.linkReset := by
  have hswitch := s.linkResetBeforeSwitch_reaches.trans (State.resetSwitch_reaches _)
  rw [State.linkReset_eq]
  split
  · exact hswitch.trans (State.reevaluate_reaches _)
  · exact hswitch

theorem State.enterSleepDrain_reaches (s : State) : Reaches s s.enterSleepDrain := by
  have hflush : Reaches s { s.setLink .sleepDrain with collector := s.collector.flushAll } :=
    (Move.collectorCalm (Collector.flushAll_calm _)).reaches.to rfl
  exact hflush.to (State.askPause_ruled _)

/-- R12, R84: the link out of SETTLE, the age timer started and a DUE record write offered. -/
def State.leaveSettle (s : State) : State :=
  { s with
    front := { s.front with link := if s.pins.sleepRequest then .sleepDrain else .awake, settleTimer := none }
    collector := { s.collector with ageTimer := some s.collector.ageInterval } }.offerDue

theorem State.settleEnd_eq (s : State) :
    s.settleEnd = if s.pins.sleepRequest then s.leaveSettle.enterSleepDrain else s.leaveSettle.endPause := rfl

theorem State.leaveSettle_reaches (s : State) : Reaches s s.leaveSettle :=
  (Move.collectorCalm (c := { s.collector with ageTimer := some s.collector.ageInterval })
    ((Collector.Calm.refl _).congr rfl rfl rfl rfl)).reaches.to (State.offerDue_ruled _)

theorem State.settleEnd_reaches (s : State) : Reaches s s.settleEnd := by
  rw [State.settleEnd_eq]
  split
  · exact s.leaveSettle_reaches.trans (State.enterSleepDrain_reaches _)
  · exact s.leaveSettle_reaches.trans (State.endPause_reaches _)

theorem State.blankStart_leads (s : State) : Leads s s.blankStart := by
  unfold State.blankStart
  split
  · exact .refl s
  · next r hr =>
    split
    · exact .refl s
    · split
      · exact (Move.movesSelect hr).leads
      · exact ((s.report_reaches _).trans (Move.count _ _ _).reaches).leads

theorem State.frameStart_reaches (s : State) : Reaches s s.frameStart := by
  have hcounted : Reaches s
      { s with frame := { counter := s.frame.counter + 1, scanStopped := false, scanTimer := some Config.scanStoppedMs } } :=
    .same rfl
  unfold State.frameStart
  dsimp only
  split
  · exact hcounted
  · next r hr =>
    split
    · next hmoved => exact hcounted.trans (State.finishSwap_reaches hr hmoved)
    · exact hcounted

theorem State.abandon_reaches {s : State} {r : ArmRecord} (h : s.planes.switch = .armed r) (hmoved : r.selectMoved = false) :
    Reaches s s.abandon :=
  (((State.withdraw_reaches h hmoved).trans (State.report_reaches _ _)).trans (Move.count _ _ _).reaches).trans
    (State.reevaluate_reaches _)

/-! ### Evaluation of a sample (7.3 to 7.5) -/

theorem Sensor.update_sound {x : Sensor} (o : Option Nat) (h : x.sound = true) : (x.update o).sound = true := by
  simp only [Sensor.sound, Bool.and_eq_true, decide_eq_true_eq] at h ⊢
  obtain ⟨⟨⟨hlow, hhigh⟩, hmisses⟩, hgoods⟩ := h
  cases o with
  | none => exact ⟨⟨⟨hlow, hhigh⟩, Nat.min_le_left _ _⟩, Nat.zero_le _⟩
  | some code => exact ⟨⟨⟨hlow, hhigh⟩, Nat.zero_le _⟩, Nat.min_le_left _ _⟩

theorem Tracker.updateHealth_sound {t : Tracker} (o0 o1 : Option Nat) (h : t.Sound) : (t.updateHealth o0 o1).Sound :=
  { h with sensors := ⟨Sensor.update_sound o0 h.sensors.1, Sensor.update_sound o1 h.sensors.2⟩ }

theorem Tracker.compareReadings_sound {t : Tracker} (r0 r1 : Option Nat) (h : t.Sound) : (t.compareReadings r0 r1).Sound := by
  have hd := h.disagreeing
  have ha := h.agreeing
  unfold Tracker.compareReadings
  split
  · unfold Tracker.compare
    split
    · exact { h with disagreeing := Nat.zero_lt_succ _ }
    · split
      · exact { h with disagreeing := Nat.zero_lt_succ _, agreeing := Nat.zero_lt_succ _ }
      · exact { h with disagreeing := by show t.disagreeing + 1 < 4; omega }
    · exact { h with agreeing := Nat.zero_lt_succ _ }
    · split
      · exact { h with disagreeing := Nat.zero_lt_succ _, agreeing := Nat.zero_lt_succ _ }
      · exact { h with agreeing := by show t.agreeing + 1 < 4; omega }
  · exact h
  · exact h

theorem reading_le (code : Nat) (offset : Int) : reading code offset ≤ 1800 := by
  unfold reading
  omega

theorem Sensor.usable_le {x : Sensor} {o : Option Nat} {a : Nat} (h : x.usable o = some a) : a ≤ 1800 := by
  unfold Sensor.usable at h
  split at h
  · split at h
    · exact Option.some.inj h ▸ reading_le _ _
    · cases h
  · cases h

/-- R124: a fused angle is one of the readings or their mean. -/
theorem Tracker.fuse_le {t : Tracker} {r0 r1 : Option Nat} {a : Nat} (h0 : ∀ b, r0 = some b → b ≤ 1800)
    (h1 : ∀ b, r1 = some b → b ≤ 1800) (h : t.fuse r0 r1 = some a) : a ≤ 1800 := by
  unfold Tracker.fuse at h
  split at h
  · cases h
  · split at h
    · next x y =>
      have hx := h0 x rfl
      have hy := h1 y rfl
      split at h
      · cases h; omega
      · cases h
    · exact h0 a h
    · exact h1 a h
    · cases h

theorem Tracker.judge_sound {t : Tracker} (o0 o1 : Option Nat) (h : t.Sound) : (t.judge o0 o1).1.Sound := by
  have hcompared := Tracker.compareReadings_sound ((t.updateHealth o0 o1).sensor0.usable o0) ((t.updateHealth o0 o1).sensor1.usable o1)
    (Tracker.updateHealth_sound o0 o1 h)
  unfold Tracker.judge
  dsimp only
  split
  · next a ha =>
    exact { hcompared with
      fused := fun b hb => by
        cases hb
        exact Tracker.fuse_le (fun _ => Sensor.usable_le) (fun _ => Sensor.usable_le) ha }
  · exact { hcompared with }

theorem Tracker.dwellOn_sound {t : Tracker} (p : Posture) (h : t.Sound) : (t.dwellOn p).Sound := by
  have hcount : 1 ≤ t.dwellCount p := by
    unfold Tracker.dwellCount
    split
    · split <;> omega
    · omega
  unfold Tracker.dwellOn
  split
  · exact { h with candidate := nofun }
  · next hsettled =>
    split
    · exact { h with candidate := nofun }
    · next hdwell =>
      refine { h with candidate := fun q n hq => ?_ }
      cases hq
      exact ⟨hcount, Nat.lt_of_not_le hdwell, hsettled⟩

theorem Tracker.evaluate_sound {t : Tracker} (latch : Bool) (o0 o1 : Option Nat) (h : t.Sound) : (t.evaluate latch o0 o1).Sound := by
  have hjudged := Tracker.judge_sound o0 o1 h
  have hsettled : ((t.judge o0 o1).1.settleBy latch (t.judge o0 o1).2).Sound := by
    unfold Tracker.settleBy
    split
    · exact hjudged
    · exact Tracker.dwellOn_sound _ hjudged
  exact { hsettled with }

/-- R121: the sample evaluated, its clamped readings counted. -/
def State.sampleCounted (s : State) (o0 o1 : Option Nat) : State :=
  { s with tracker := s.tracker.evaluate s.pins.closedLatch o0 o1 }.count .clampedSamples
    (clampReports o0 s.tracker.sensor0.offset + clampReports o1 s.tracker.sensor1.offset)

/-- R125: one SENSOR report for any change of health, pair state or mode. -/
def State.sampleTold (s : State) (o0 o1 : Option Nat) : State :=
  if Tracker.sensorReport s.tracker (s.tracker.evaluate s.pins.closedLatch o0 o1) then (s.sampleCounted o0 o1).report .sensor
  else s.sampleCounted o0 o1

theorem State.evaluate_eq (s : State) (o0 o1 : Option Nat) :
    s.evaluate o0 o1 =
      if (s.tracker.evaluate s.pins.closedLatch o0 o1).settled = s.tracker.settled then s.sampleTold o0 o1
      else ((s.sampleTold o0 o1).report .posture).reevaluate := rfl

theorem State.sampleTold_reaches (s : State) (o0 o1 : Option Nat) : Reaches s (s.sampleTold o0 o1) := by
  have hcounted : Reaches s (s.sampleCounted o0 o1) :=
    (Move.tracks (Tracker.evaluate_sound _ o0 o1)).reaches.trans (Move.count _ _ _).reaches
  unfold State.sampleTold
  split
  · exact hcounted.trans (State.report_reaches _ _)
  · exact hcounted

theorem State.evaluate_reaches (s : State) (o0 o1 : Option Nat) : Reaches s (s.evaluate o0 o1) := by
  rw [State.evaluate_eq]
  split
  · exact s.sampleTold_reaches o0 o1
  · exact ((s.sampleTold_reaches o0 o1).trans (State.report_reaches _ _)).trans (State.reevaluate_reaches _)

theorem State.endRead_reaches (s : State) (o : Option Nat) : Reaches s (s.endRead o) := by
  unfold State.endRead
  split
  · exact .refl s
  · exact (Move.tracks (t := { s.tracker with sample := .reading1 o }) fun h => { h with }).reaches
  · exact s.evaluate_reaches _ _

end Sys2Proof.Machine
end

section
/-! What a grant and a choice point leave alone (R150, R153). -/

namespace Sys2Proof.Machine

/-- The parts that no grant touches. -/
structure OffGrant where
  router : Option RouterHold
  responses : List Response
  sentUpstream : List DataBeat
  translator : Translator
  planes : Planes
  jobs : List FillJob
  paused : Bool
  pauseAsked : Bool
  flags : BitVec 14
  counters : Counters
  nextId : Nat

def State.offGrant (s : State) : OffGrant where
  router := s.router
  responses := s.responses
  sentUpstream := s.sentUpstream
  translator := s.translator
  planes := s.planes
  jobs := s.fill.jobs
  paused := s.fill.paused
  pauseAsked := s.fill.pauseAsked
  flags := s.status.flags
  counters := s.status.counters
  nextId := s.nextId

@[simp] theorem State.grant_offGrant (s : State) (x : Source) : (s.grant x).offGrant = s.offGrant := by
  cases x
  case record => rfl
  all_goals
    simp only [State.grant, State.grantFetch, State.grantPriority, State.grantPath, State.grantOrdinary, State.grantFill]
    split <;> rfl

@[simp] theorem State.choicePoint_offGrant (s : State) : s.choicePoint.offGrant = s.offGrant := by
  unfold State.choicePoint
  split
  · rfl
  · unfold State.grantPick
    split
    · rfl
    · exact s.grant_offGrant _

@[simp] theorem State.completionChoice_offGrant (before s : State) : (State.completionChoice before s).offGrant = s.offGrant := by
  unfold State.completionChoice
  split
  · exact s.grant_offGrant _
  · exact s.choicePoint_offGrant

@[simp] theorem State.orderOffers_offGrant (before s : State) : (State.orderOffers before s).offGrant = s.offGrant := by
  obtain ⟨b, n, h⟩ := State.orderOffers_eq before s
  rw [h]; rfl

end Sys2Proof.Machine
end

section
/-! Control records, requests and bursts as moves, and so every command (10.2 to 10.3, 1.4 to 1.6, 9.2). -/

namespace Sys2Proof.Machine

/-! ### LOAD to FILL (R26, R42, R101 to R103, R109, R145) -/

theorem State.recordResult_reaches (s : State) (r : Result) : Reaches s (s.recordResult r) := .same (s.recordResult_ruled r)

theorem State.beginLoad_reaches {s : State} {i : Fin 8} (offset : Nat) (hfree : s.planes.slotBound i = false)
    (hidle : s.decoder.busy = false) : Reaches s (s.beginLoad i offset) := by
  refine (Move.loadBegins hfree hidle (offset := offset)).reaches.to ?_
  unfold State.beginLoad
  rw [State.awaitWrites_eq]
  rfl

theorem State.takeLoad_reaches {s : State} (slot offset : Word) (hidle : s.decoder.busy = false) :
    Reaches s (s.takeLoad slot offset) := by
  unfold State.takeLoad
  split
  · exact s.recordResult_reaches _
  · split
    · exact s.recordResult_reaches _
    · next hfree =>
      split
      · exact State.beginLoad_reaches _ (by simpa using hfree) hidle
      · exact s.recordResult_reaches _

theorem State.takeUnload_reaches {s : State} (slot : Word) (hidle : s.decoder.busy = false) : Reaches s (s.takeUnload slot) := by
  unfold State.takeUnload
  split
  · exact s.recordResult_reaches _
  · split
    · exact s.recordResult_reaches _
    · next hfree =>
      exact (Move.slotEmpties (by simpa using hfree) hidle).reaches.trans (State.recordResult_reaches _ _)

theorem State.takeBind_reaches (s : State) (slot plane flag : Word) : Reaches s (s.takeBind slot plane flag) := by
  unfold State.takeBind
  split
  · exact s.recordResult_reaches _
  · exact s.recordResult_reaches _
  · split
    · exact s.recordResult_reaches _
    · next p i _ _ _ hrefusal =>
      have hselect : (s.setBinding p (some i)).planes.select = s.planes.select := by cases p <;> rfl
      exact ((Move.binds hrefusal).reaches fun _ => by split <;> simp [State.joinBackground, hselect]).trans
        (State.recordResult_reaches _ _)

theorem State.unbindPlane_reaches {s : State} {p : Plane} (hscan : s.planes.scanned ≠ p) (hsteady : s.planes.switch = .steady) :
    Reaches s (s.unbindPlane p) := by
  refine ((Move.collectorCalm (Collector.discard_calm s.collector p)).reaches.trans
    ((Move.unbinds (s := { s with collector := s.collector.discard p }) hscan hsteady).reaches fun _ => by cases p <;> rfl)).to ?_
  unfold State.unbindPlane
  rw [State.cancelJobs_ruled, State.withoutJobs_ruled]
  cases p <;> rfl

theorem State.takeUnbind_reaches (s : State) (plane : Word) : Reaches s (s.takeUnbind plane) := by
  unfold State.takeUnbind
  split
  · exact s.recordResult_reaches _
  · split
    · exact s.recordResult_reaches _
    · next hscan =>
      split
      · exact s.recordResult_reaches _
      · next harmed =>
        split
        · exact s.recordResult_reaches _
        · exact (State.unbindPlane_reaches hscan (by simpa [Switch.isArmed_iff] using harmed)).trans (State.recordResult_reaches _ _)

theorem State.takeCommit_reaches (s : State) : Reaches s s.takeCommit := by
  unfold State.takeCommit
  split
  · exact s.recordResult_reaches _
  · next harmed =>
    split
    · exact s.recordResult_reaches _
    · next hbound =>
      exact (State.arm_reaches _ (by simpa [Switch.isArmed_iff] using harmed)
        (by simpa [Option.isSome_iff_ne_none] using hbound)).trans (State.recordResult_reaches _ _)

theorem State.takeCancel_reaches (s : State) : Reaches s s.takeCancel := by
  unfold State.takeCancel
  split
  · exact s.recordResult_reaches _
  · next r hr =>
    split
    · exact s.recordResult_reaches _
    · next hmoved => exact (State.withdraw_reaches hr (by simpa using hmoved)).trans (State.recordResult_reaches _ _)

theorem State.takeFill_reaches (s : State) (plane x y width height colour : Word) :
    Reaches s (s.takeFill plane x y width height colour) := by
  unfold State.takeFill
  split
  · exact s.recordResult_reaches _
  · split
    · exact s.recordResult_reaches _
    · next hbound =>
      split
      · exact s.recordResult_reaches _
      · split
        · exact s.recordResult_reaches _
        · next hroom =>
          exact (Move.hostJoins (by simpa using hroom) (by simpa [Option.isSome_iff_ne_none] using hbound)).reaches.trans
            (State.recordResult_reaches _ _)

/-! ### SET-MAP to RESET (R132 to R134, R164 to R166) -/

theorem clamp_bounds {low high : Nat} (h : low ≤ high) (n : Nat) : low ≤ clamp low high n ∧ clamp low high n ≤ high := by
  unfold clamp
  omega

theorem clampInt_bounds {low high : Int} (h : low ≤ high) (n : Int) : low ≤ clampInt low high n ∧ clampInt low high n ≤ high := by
  unfold clampInt
  omega

theorem Sensor.sound_withOffset {x : Sensor} (n : Int) (h : x.sound = true) :
    ({ x with offset := clampInt (-100) 100 n } : Sensor).sound = true := by
  obtain ⟨hlow, hhigh⟩ := clampInt_bounds (low := -100) (high := 100) (by decide) n
  simp only [Sensor.sound, Bool.and_eq_true, decide_eq_true_eq] at h ⊢
  exact ⟨⟨⟨hlow, hhigh⟩, h.1.2⟩, h.2⟩

theorem State.takeSetMap_reaches (s : State) (closed partly opened : Word) : Reaches s (s.takeSetMap closed partly opened) := by
  unfold State.takeSetMap
  split
  · next c p o _ _ _ =>
    exact (Move.tracks (t := { s.tracker with map := ⟨c, p, o⟩ }) fun h => { h with }).reaches.trans (State.recordResult_reaches _ _)
  · exact s.recordResult_reaches _

theorem State.takeSetTracker_reaches (s : State) (closedEnter closedExit openExit openEnter dwell limit offset0 offset1 period : Word) :
    Reaches s (s.takeSetTracker closedEnter closedExit openExit openEnter dwell limit offset0 offset1 period) := by
  unfold State.takeSetTracker
  dsimp only
  split
  · next hthresholds =>
    refine (Move.tracks fun h => ?_).reaches.trans (State.recordResult_reaches _ _)
    exact
      { h with
        sensors := ⟨Sensor.sound_withOffset _ h.sensors.1, Sensor.sound_withOffset _ h.sensors.2⟩
        thresholds := thresholdsOk_iff.1 hthresholds
        dwell := clamp_bounds (by decide) _
        limit := clamp_bounds (by decide) _
        period := clamp_bounds (by decide) _
        candidate := nofun }
  · exact s.recordResult_reaches _

theorem State.takeSetPath_reaches (s : State) (highWater settle age swapLimit mask : Word) :
    Reaches s (s.takeSetPath highWater settle age swapLimit mask) :=
  (Move.settings (clamp_bounds (by decide) highWater.toNat) (clamp_bounds (by decide) settle.toNat)
    (clamp_bounds (by decide) age.toNat) (clamp_bounds (by decide) swapLimit.toNat)).reaches.to (State.recordResult_ruled _ _)

theorem State.takeAck_reaches (s : State) (mask clear : Word) : Reaches s (s.takeAck mask clear) := by
  unfold State.takeAck
  split
  · exact (Move.clearCounters s).reaches.to (State.recordResult_ruled _ _)
  · exact .same (State.recordResult_ruled _ _)

@[simp] theorem State.withdrawRecord_ruled (s : State) : s.withdrawRecord.ruled = s.ruled := by
  unfold State.withdrawRecord
  split <;> rfl

/-- R17: the link side emptied, its zero beats out, before a load is aborted. -/
def State.softEmptied (s : State) : State :=
  let s' := s.answerZeros.emptyPath.withdrawRecord
  { s' with
    collector := s'.collector.clear (if s'.front.link.active then some s'.collector.ageInterval else none)
    pointer := .path }

theorem State.softResetBlocks_eq (s : State) :
    s.softResetBlocks =
      (s.softEmptied.abortLoad.cancelAllJobs (decide (s.softEmptied.front.link = .sleepDrain))).disownFlight := rfl

theorem State.softResetBlocks_load (s : State) : s.softResetBlocks.layouts.load = none := State.abortLoad_load s.softEmptied

theorem State.softResetBlocks_reaches (s : State) : Reaches s s.softResetBlocks := by
  have hanswered : Reaches s s.answerZeros := .same rfl
  have hemptied : Reaches s s.softEmptied :=
    (((hanswered.trans (State.emptyPath_reaches _)).to (State.withdrawRecord_ruled _)).trans
      (Move.collectorCalm (Collector.clear_calm _ _)).reaches).to rfl
  exact ((hemptied.trans (State.abortLoad_reaches _)).trans (State.cancelAllJobs_reaches _ _)).to (State.disownFlight_ruled _)

@[simp] theorem State.resetSwitch_layouts (s : State) : s.resetSwitch.1.layouts = s.layouts := by
  unfold State.resetSwitch
  split
  · rfl
  · next r _ =>
    split
    · obtain ⟨fl, w, b, h⟩ := State.report_eq
        { s with planes := { s.planes with scanned := r.target, select := r.target, switch := .steady } } .swapDone
      show (s.swapDone r).layouts = s.layouts
      unfold State.swapDone
      rw [h]
    · rfl

/-- R166: the switch has acted, decoder, flags and counters stand anew. -/
def State.softResetBeforeRecord (s : State) : State := s.softResetBlocks.resetSwitch.1.softResetRecords s.layouts.load.isSome

theorem State.takeReset_eq (s : State) :
    s.takeReset =
      (if s.softResetBlocks.resetSwitch.2 then s.softResetBeforeRecord.reevaluate else s.softResetBeforeRecord).recordCause := rfl

theorem State.softResetBeforeRecord_reaches (s : State) : Reaches s s.softResetBeforeRecord := by
  have hswitch : Reaches s s.softResetBlocks.resetSwitch.1 := s.softResetBlocks_reaches.trans (State.resetSwitch_reaches _)
  have hload : s.softResetBlocks.resetSwitch.1.layouts.load = none := by
    rw [State.resetSwitch_layouts]
    exact s.softResetBlocks_load
  exact ((hswitch.trans (Move.rests hload).reaches).trans (Move.clearCounters _).reaches).to rfl

theorem State.takeReset_reaches (s : State) : Reaches s s.takeReset := by
  rw [State.takeReset_eq]
  split
  · exact (s.softResetBeforeRecord_reaches.trans (State.reevaluate_reaches _)).to (State.recordCause_ruled _)
  · exact s.softResetBeforeRecord_reaches.to (State.recordCause_ruled _)

/-! ### The judgement (R161) -/

theorem State.rejectRecord_reaches (s : State) : Reaches s s.rejectRecord :=
  (Move.count s .rejectedRecords 1).reaches.trans (State.report_reaches _ _)

theorem State.noteTaken_reaches (s : State) (command : Word) : Reaches s (s.noteTaken command) := .same rfl

theorem State.takes_iff {s : State} {command check : Word} :
    s.takes command check = true ↔ check = ~~~command ∧ (s.decoder.busy = false ∨ command = 0x0C) := by
  simp [State.takes]

theorem State.arrive_reaches {s : State} {command check : Word} {act : State → State}
    (h : s.decoder.busy = false ∨ command = 0x0C → Reaches (s.noteTaken command) (act (s.noteTaken command))) :
    Reaches s (s.arrive command check act) := by
  unfold State.arrive
  split
  · next htakes => exact (s.noteTaken_reaches command).trans (h (State.takes_iff.1 htakes).2)
  · exact s.rejectRecord_reaches

theorem State.controlRecord_reaches {s : State} {command check : Word} {act : State → State}
    (h : s.decoder.busy = false ∨ command = 0x0C → Reaches (s.noteTaken command) (act (s.noteTaken command))) :
    Reaches s (s.controlRecord command check act).state := by
  unfold State.controlRecord
  split
  · exact State.arrive_reaches h
  · exact .refl s

/-- Only RESET is taken of a decoder that is busy, so any other command finds it idle. -/
theorem State.controlRecord_reaches_idle {s : State} {command check : Word} {act : State → State} (hcommand : command ≠ 0x0C)
    (h : ∀ u : State, u.decoder.busy = false → Reaches u (act u)) : Reaches s (s.controlRecord command check act).state :=
  State.controlRecord_reaches fun hbusy => h _ (hbusy.resolve_right hcommand)

theorem commandOf_reaches {s : State} {command : Word} (w : Nat → Word) (h : s.decoder.busy = false ∨ command = 0x0C) :
    Reaches s (commandOf command w s) := by
  have hidle (n : Nat) (hn : command.toNat = n) (hne : n ≠ 12) : s.decoder.busy = false :=
    h.resolve_right fun hc => hne (by rw [← hn, hc]; rfl)
  obtain ⟨f, hf⟩ : ∃ f, commandOf command w = f := ⟨_, rfl⟩
  rw [hf]
  unfold commandOf at hf
  split at hf <;> subst hf
  · next hn => exact State.takeLoad_reaches _ _ (hidle 1 hn (by decide))
  · next hn => exact State.takeUnload_reaches _ (hidle 2 hn (by decide))
  · exact s.takeBind_reaches _ _ _
  · exact s.takeUnbind_reaches _
  · exact s.takeCommit_reaches
  · exact s.takeCancel_reaches
  · exact s.takeFill_reaches _ _ _ _ _ _
  · exact s.takeSetMap_reaches _ _ _
  · exact s.takeSetTracker_reaches _ _ _ _ _ _ _ _ _
  · exact s.takeSetPath_reaches _ _ _ _ _
  · exact s.takeAck_reaches _ _
  · exact s.takeReset_reaches
  · exact s.recordResult_reaches _

theorem State.snoop_reaches (s : State) (bytes : List Byte) : Reaches s (s.snoop bytes) :=
  State.arrive_reaches fun h => commandOf_reaches _ h

/-! ### Requests (1.4 to 1.6) -/

@[simp] theorem State.openResponse_ruled (s : State) (r : Request) : (s.openResponse r).1.ruled = s.ruled := by
  unfold State.openResponse
  split <;> rfl

theorem State.takeRequest_reaches (s : State) (r : Request) : Reaches s (s.takeRequest r) :=
  (Reaches.same (s.openResponse_ruled r)).trans (State.workOn_reaches _ _ _)

theorem State.placementChoice_reaches (s : State) : Reaches s s.placementChoice := by
  unfold State.placementChoice
  split
  · exact s.choicePoint_reaches.to rfl
  · exact .same rfl

theorem State.placePass_reaches {s : State} (hold : RouterHold) (p : Piece) (h : s.outputRoom = true) :
    Reaches s (s.placePass hold p) := State.placeSegment_reaches _ _ _ h

theorem State.placeMailbox_reaches {s : State} (hold : RouterHold) (p : Piece) (beats : List DataBeat) (h : s.outputRoom = true) :
    Reaches s (s.placeMailbox hold p beats) := by
  have hplaced : Reaches s { s.placePass hold p with mailboxOutstanding := some s.nextId } :=
    (State.placePass_reaches hold p h).to rfl
  exact ((hplaced.trans (State.placementChoice_reaches _)).trans (State.pieceHandedOn_reaches _)).trans (State.snoop_reaches _ _)

/-! ### Bursts at memory (9.2) -/

theorem State.flushWritten_reaches (s : State) (id : Nat) : Reaches s (s.flushWritten id) :=
  ((Move.collectorCalm (Collector.leaveDrains_calm _ _)).reaches.trans (State.noteDrains_reaches _)).trans
    (State.releaseRead_reaches _ _)

@[simp] theorem State.clearOutstanding_ruled (s : State) (id : Nat) : (s.clearOutstanding id).ruled = s.ruled := by
  unfold State.clearOutstanding
  split <;> rfl

theorem State.segmentWritten_reaches (s : State) (id : Nat) : Reaches s (s.segmentWritten id) :=
  (Reaches.same (s.clearOutstanding_ruled id)).trans (State.noteSegment_reaches _ _)

theorem State.reportCompletion_reaches (s : State) (f : Flight) : Reaches s (s.reportCompletion f) := by
  unfold State.reportCompletion
  split
  · split
    · exact s.fetchComplete_reaches
    · exact .same s.recordWritten_ruled
    · exact s.flushWritten_reaches _
    · exact s.flushWritten_reaches _
    · split
      · exact s.segmentWritten_reaches _
      · exact .refl s
    · exact s.fillWritten_reaches
  · exact .refl s

theorem State.completeFlight_reaches (s : State) (f : Flight) : Reaches s (s.completeFlight f) :=
  Reaches.trans (t := { s with port := none, mem := s.landed f }) (.same rfl) (State.reportCompletion_reaches _ _)

theorem State.deliverBeat_reaches (s : State) (origin : Origin) (beat : Nat) (data : DataBeat) :
    Reaches s (s.deliverBeat origin beat data) := by
  unfold State.deliverBeat
  split
  · exact s.takeFetchBeat_reaches data
  · exact .same rfl
  · exact .refl s
  · exact .refl s
  · exact s.assemble_reaches _ _ _
  all_goals exact .refl s

theorem State.returnBeat_reaches (s : State) (f : Flight) (other : DataBeat) : Reaches s (s.returnBeat f other) := by
  have hmoved : Reaches s { s with port := some { f with moved := f.moved + 1 } } := .same rfl
  unfold State.returnBeat
  dsimp only
  split
  · exact hmoved.trans (State.deliverBeat_reaches _ _ _ _)
  · exact hmoved

/-! ### Every command -/

theorem State.powerOn_ruled (strap1 strap0 : Bool) (s : State) : (s.powerOn strap1 strap0).ruled = State.reset.ruled := rfl

/-- What a command does itself comes by moves. -/
theorem act_reaches (c : Instr) (s : State) (hpower : ∀ a b, c ≠ .powerOnReset a b) (hblank : c ≠ .blankStart) :
    Reaches s (act c s).state := by
  cases c with
  | powerOnReset strap1 strap0 => exact absurd rfl (hpower strap1 strap0)
  | blankStart => exact absurd rfl hblank
  | powerOnResetRelease =>
    simp only [act, actPowerOnResetRelease]
    split
    · exact s.release_reaches
    · exact .refl s
  | linkReset =>
    have hline : Reaches s { s with pins := { s.pins with linkReset := true } } := .same rfl
    simp only [act, actLinkReset]
    split
    · exact .refl s
    · split
      · exact hline
      · exact hline.trans (State.linkReset_reaches _)
  | linkResetRelease =>
    simp only [act, actLinkResetRelease]
    split
    · split <;> exact .same rfl
    · exact .refl s
  | settleEnd =>
    simp only [act, actSettleEnd]
    split
    · exact s.settleEnd_reaches
    · exact .refl s
  | sleepRequestRise =>
    have hline : Reaches s { s with pins := { s.pins with sleepRequest := true } } := .same rfl
    simp only [act, actSleepRequestRise]
    split
    · exact .refl s
    · split
      · exact hline.trans (State.enterSleepDrain_reaches _)
      · exact hline
  | sleepRequestFall =>
    have hline : Reaches s (State.setLink { s with pins := { s.pins with sleepRequest := false } } .awake) := .same rfl
    simp only [act, actSleepRequestFall]
    split
    · split
      · exact hline.trans (State.endPause_reaches _)
      all_goals exact .same rfl
    · exact .refl s
  | drainCondition =>
    simp only [act, actDrainCondition]
    split
    · exact (Move.collectorCalm (c := { s.collector with ageTimer := none })
        ((Collector.Calm.refl _).congr rfl rfl rfl rfl)).reaches.to rfl
    · exact .refl s
  | accept r =>
    simp only [act, actAccept]
    split
    · next h =>
      have hready : s.ready = true := (Bool.and_eq_true_iff.1 h).1
      exact (Move.inboundJoins (by simpa [State.ready] using (Bool.and_eq_true_iff.1 hready).2)).reaches
    · exact .refl s
  | routerTake =>
    simp only [act, actRouterTake]
    split
    · next r rest hinbound _ =>
      split
      · exact (Move.inboundLeaves (hinbound ▸ List.suffix_cons r rest)).reaches.trans (State.takeRequest_reaches _ _)
      · exact .refl s
    · exact .refl s
  | passSegmentPlace =>
    simp only [act, actPassSegmentPlace]
    split
    · exact .refl s
    · split
      · exact .refl s
      · split
        · next hroom =>
          split
          · exact State.placeMailbox_reaches _ _ _ hroom
          · exact (State.placePass_reaches _ _ hroom).trans (State.pieceHandedOn_reaches _)
        · exact .refl s
  | straightSegmentPlace =>
    simp only [act, actStraightSegmentPlace]
    split
    · next job hjob =>
      split
      · split
        · next hroom => exact (State.placeSegment_reaches _ _ _ hroom).trans (State.goOn_reaches hjob)
        · exact .refl s
      · exact .refl s
    all_goals exact .refl s
  | collectorInsert =>
    simp only [act, actCollectorInsert]
    split
    · next job hjob =>
      split
      · next hand => exact State.offerInsert_reaches hjob hand
      · exact .refl s
      · exact .refl s
    all_goals exact .refl s
  | translatedReadSegmentPlace =>
    simp only [act, actTranslatedReadSegmentPlace]
    split
    · split
      · next hroom => exact State.placeRead_reaches hroom
      · exact .refl s
    all_goals exact .refl s
  | burstComplete =>
    simp only [act, actBurstComplete]
    split
    · exact .refl s
    · split
      · exact s.completeFlight_reaches _
      · exact .refl s
  | readDataReturn beat =>
    simp only [act, actReadDataReturn]
    split
    · exact .refl s
    · split
      · exact s.returnBeat_reaches _ _
      · exact .refl s
  | headFetchOffer =>
    simp only [act, actHeadFetchOffer]
    split
    · exact .refl s
    · next l hl =>
      split
      · exact State.offerFetch_reaches hl rfl fun h => h
      · exact .refl s
  | ageTick =>
    simp only [act, actAgeTick]
    split
    · exact (Move.collectorCalm (Collector.ageTick_calm _)).reaches
    · exact .refl s
  | frameStart =>
    have hline : Reaches s { s with pins := { s.pins with frameSync := true } } := .same rfl
    simp only [act, actFrameStart]
    split
    · exact .refl s
    · split
      · exact hline
      · exact hline.trans (State.frameStart_reaches _)
  | scanStopped =>
    simp only [act, actScanStopped]
    split <;> exact .same rfl
  | swapLimit =>
    simp only [act, actSwapLimit]
    split
    · exact .refl s
    · next r hr =>
      split
      · exact .refl s
      · next hmoved => exact State.abandon_reaches hr (by simpa using hmoved)
  | sampleTimer =>
    simp only [act, actSampleTimer]
    split
    · exact (Move.tracks (t := { s.tracker with
        sampleTimer := some s.tracker.period
        sample := if s.tracker.sample = .none then Sample.reading0 else s.tracker.sample }) fun h => { h with }).reaches
    · exact .refl s
  | sensorRead k a b =>
    simp only [act, actSensorRead]
    split
    · exact s.endRead_reaches _
    · exact .refl s
  | i2cTimeout =>
    simp only [act, actI2cTimeout]
    split
    · exact s.endRead_reaches _
    · exact .refl s
  | latchRise =>
    have hline : Reaches s { s with pins := { s.pins with closedLatch := true } } := .same rfl
    simp only [act, actLatchRise]
    split
    · exact .refl s
    · split
      · exact hline
      · exact hline.trans (State.latchRising_reaches _)
  | latchFall =>
    have hline : Reaches s { s with pins := { s.pins with closedLatch := false } } := .same rfl
    simp only [act, actLatchFall]
    split
    · split
      · exact hline
      · exact hline.trans (State.report_reaches _ _)
    · exact .refl s
  | fillJobStart => exact s.takeUpJob_reaches
  | load check slot offset => exact State.controlRecord_reaches_idle (by decide) fun u => u.takeLoad_reaches slot offset
  | unload check slot => exact State.controlRecord_reaches_idle (by decide) fun u => u.takeUnload_reaches slot
  | bind check slot plane flag => exact State.controlRecord_reaches fun _ => State.takeBind_reaches _ _ _ _
  | unbind check plane => exact State.controlRecord_reaches fun _ => State.takeUnbind_reaches _ _
  | commit check => exact State.controlRecord_reaches fun _ => State.takeCommit_reaches _
  | cancel check => exact State.controlRecord_reaches fun _ => State.takeCancel_reaches _
  | fill check plane x y width height colour => exact State.controlRecord_reaches fun _ => State.takeFill_reaches _ _ _ _ _ _ _
  | setMap check closed partly opened => exact State.controlRecord_reaches fun _ => State.takeSetMap_reaches _ _ _ _
  | setTracker check ce cx ox oe dwell limit offset0 offset1 period =>
    exact State.controlRecord_reaches fun _ => State.takeSetTracker_reaches _ _ _ _ _ _ _ _ _ _
  | setPath check highWater settle age swapLimit mask =>
    exact State.controlRecord_reaches fun _ => State.takeSetPath_reaches _ _ _ _ _ _
  | ack check mask clear => exact State.controlRecord_reaches fun _ => State.takeAck_reaches _ _ _
  | reset check => exact State.controlRecord_reaches fun _ => State.takeReset_reaches _
  | badCommand command check =>
    simp only [act, actBadCommand]
    split
    · exact .refl s
    · exact State.controlRecord_reaches fun _ => State.recordResult_reaches _ _

theorem actBlankStart_leads (s : State) : Leads s (actBlankStart s).state := by
  have hline : Reaches s { s with pins := { s.pins with frameSync := false } } := .same rfl
  unfold actBlankStart
  split
  · split
    · exact hline.leads
    · exact hline.leads.trans (State.blankStart_leads _)
  · exact .refl s

theorem act_leads (c : Instr) (s : State) : Leads s (act c s).state := by
  by_cases hselects : (∃ a b, c = .powerOnReset a b) ∨ c = .blankStart
  · obtain ⟨a, b, rfl⟩ | rfl := hselects
    · exact (Move.powerOn (State.powerOn_ruled a b s)).leads
    · exact actBlankStart_leads s
  · rw [not_or] at hselects
    exact (act_reaches c s (fun a b h => hselects.1 ⟨a, b, h⟩) hselects.2).leads

/-- What a command answers comes by moves. -/
theorem exec_leads {c : Instr} {s t : State} (h : exec c s = .next t) : Leads s t :=
  (act_leads c s).trans (Act.answer_leads (exec_eq_act c s ▸ h))

/-- What a step answers comes by moves. -/
theorem step_leads {s t : State} (h : step s = .next t) : Leads s t := by
  unfold step at h
  split at h
  · cases h; exact .refl s
  · next c rest _ =>
    have hqueue : Reaches s { s with pending := rest } := .same rfl
    exact hqueue.leads.trans (exec_leads h)

/-- A property every move keeps is kept by every step. -/
theorem step_keeps {P : State → Prop} (hP : ∀ s t, Move s t → P s → P t) {s t : State} (hs : P s) (h : step s = .next t) : P t :=
  (step_leads h).keeps hP hs

end Sys2Proof.Machine
end

section
/-! What the request path leaves alone (R50 to R62, R82). -/

namespace Sys2Proof.Machine

/-- The parts of the state a request in translation does not touch, and the queues and the port it only waits for. -/
structure Aside where
  layouts : LayoutTable
  planes : Planes
  fill : FillEngine
  port : Option Flight
  pointer : Ring
  outQueue : List Segment

def State.aside (s : State) : Aside where
  layouts := s.layouts
  planes := s.planes
  fill := s.fill
  port := s.port
  pointer := s.pointer
  outQueue := s.outQueue

@[simp] theorem State.report_aside (s : State) (f : EventFlag) : (s.report f).aside = s.aside := by
  obtain ⟨fl, w, b, h⟩ := s.report_eq f
  rw [h]; rfl

@[simp] theorem State.report_counters (s : State) (f : EventFlag) : (s.report f).status.counters = s.status.counters := by
  obtain ⟨fl, w, b, h⟩ := s.report_eq f
  rw [h]

/-- The counters the request path raises (R50, R70, R82). -/
def Counter.ofPath : Counter → Bool
  | .orphan | .padding | .saturation | .eviction => true
  | .clampedSamples | .lateSwaps | .abandonedSwaps | .rejectedRecords => false

/-- A report, a count, or a change of what the request path itself holds. -/
inductive PathStep : State → State → Prop
  | report (s : State) (f : EventFlag) : PathStep s (s.report f)
  | count (s : State) (c : Counter) (n : Nat) (h : c.ofPath = true) : PathStep s (s.count c n)
  | goes {s t : State} (h : t.aside = s.aside) (hstatus : t.status = s.status) : PathStep s t

def PathSteps (s t : State) : Prop := Relation.ReflTransGen PathStep s t

theorem PathSteps.refl (s : State) : PathSteps s s := Relation.ReflTransGen.refl

theorem PathSteps.trans {s t u : State} (h : PathSteps s t) (k : PathSteps t u) : PathSteps s u := Relation.ReflTransGen.trans h k

theorem PathStep.steps {s t : State} (h : PathStep s t) : PathSteps s t := Relation.ReflTransGen.single h

theorem PathSteps.goes {s t u : State} (h : PathSteps s t) (haside : u.aside = t.aside := by rfl)
    (hstatus : u.status = t.status := by rfl) :
    PathSteps s u := h.trans (PathStep.goes haside hstatus).steps

theorem State.reportSaturations_pathSteps (s : State) (n : Nat) : PathSteps s (s.reportSaturations n) := by
  cases n with
  | zero => exact .refl s
  | succ n => exact (PathStep.count s .saturation _ rfl).steps.trans (PathStep.report _ _).steps

theorem State.takeInHand_pathSteps (s : State) (plane : Plane) (layout : Option Layout) (steps : List LaneStep) :
    PathSteps s (s.takeInHand plane layout steps) := by
  induction steps generalizing s with
  | nil => exact (PathSteps.refl s).goes
  | cons x rest ih =>
    cases x with
    | orphan => exact ((PathStep.count s _ _ rfl).steps.trans (PathStep.report _ _).steps).trans (ih _)
    | padding => exact (PathStep.count s _ _ rfl).steps.trans (ih _)
    | run v r lanes => exact (s.reportSaturations_pathSteps _).goes
    | turned lane => exact (s.reportSaturations_pathSteps _).goes

theorem State.enquire_pathSteps (s : State) (job : ReadJob) : PathSteps s (s.enquire job) := by
  unfold State.enquire
  split
  · exact (PathSteps.refl s).goes
  · dsimp only
    split
    · exact (PathSteps.refl s).goes
    · exact (PathSteps.refl s).goes

theorem State.setAssembled_pathSteps (s : State) (id i : Nat) (qs : List (Quad LaneSource)) :
    PathSteps s (s.setAssembled id i qs) := by
  induction qs generalizing s i with
  | nil => exact .refl s
  | cons q rest ih =>
    unfold State.setAssembled
    split
    · exact (PathSteps.refl s).goes.trans (ih _ _)
    · exact ih _ _

theorem State.translatePiece_pathSteps (s : State) (plane : Plane) (piece : Piece) (r : Option Nat) :
    PathSteps s (s.translatePiece plane piece r) := by
  have hsent (id i : Nat) (qs : List (Quad LaneSource)) : PathSteps s (s.setAssembled id i qs).sendUpstream :=
    (s.setAssembled_pathSteps id i qs).goes
  unfold State.translatePiece
  dsimp only
  split
  · exact s.takeInHand_pathSteps _ _ _
  · split
    · exact (hsent _ _ _).goes
    · exact (hsent _ _ _).trans (State.enquire_pathSteps _ _)

theorem State.workOn_pathSteps (s : State) (hold : RouterHold) (ps : List Piece) : PathSteps s (s.workOn hold ps) := by
  induction ps generalizing s with
  | nil => exact (PathSteps.refl s).goes
  | cons p rest ih =>
    have hheld : PathSteps s { s with router := some { hold with pieces := p :: rest } } := (PathSteps.refl s).goes
    unfold State.workOn
    dsimp only
    split
    · split
      · exact (hheld.trans (State.translatePiece_pathSteps _ _ _ _)).trans (ih _)
      · exact hheld.trans (State.translatePiece_pathSteps _ _ _ _)
    all_goals exact hheld

theorem State.pieceHandedOn_pathSteps (s : State) : PathSteps s s.pieceHandedOn := by
  unfold State.pieceHandedOn
  split
  · exact .refl s
  · exact s.workOn_pathSteps _ _

theorem State.handedOnIfIdle_pathSteps (s : State) : PathSteps s s.handedOnIfIdle := by
  unfold State.handedOnIfIdle
  split
  · exact s.pieceHandedOn_pathSteps
  · exact .refl s

theorem State.goOn_pathSteps (s : State) (job : WriteJob) : PathSteps s (s.goOn job) :=
  (State.takeInHand_pathSteps _ _ _ _).trans (State.handedOnIfIdle_pathSteps _)

theorem State.offerInsert_pathSteps (s : State) (job : WriteJob) (i : Insert) : PathSteps s (s.offerInsert job i) := by
  have hinserted : PathSteps s { s with
      collector := (s.collector.insert i s.nextId (decide (s.front.link = .sleepDrain))).collector
      nextId := if (s.collector.insert i s.nextId (decide (s.front.link = .sleepDrain))).created then s.nextId + 1 else s.nextId } :=
    (PathSteps.refl s).goes
  unfold State.offerInsert
  dsimp only
  split <;> split
  · exact (hinserted.trans (PathStep.count _ .eviction _ rfl).steps).trans (State.goOn_pathSteps _ _)
  · exact hinserted.trans (State.goOn_pathSteps _ _)
  · exact (hinserted.trans (PathStep.count _ .eviction _ rfl).steps).goes
  · exact hinserted.goes

theorem State.retryInsert_pathSteps (s : State) : PathSteps s s.retryInsert := by
  unfold State.retryInsert
  split
  · split
    · split
      · exact State.offerInsert_pathSteps _ _ _
      · exact .refl s
    all_goals exact .refl s
  all_goals exact .refl s

theorem PathSteps.aside {s t : State} (h : PathSteps s t) : t.aside = s.aside := by
  induction h with
  | refl => rfl
  | tail _ hstep ih =>
    cases hstep with
    | report f => rw [State.report_aside, ih]
    | count c n _ => exact ih
    | goes h _ => rw [h, ih]

/-- The counters of the other blocks are as they were. -/
theorem PathSteps.counters {s t : State} (h : PathSteps s t) :
    t.status.counters.clampedSamples = s.status.counters.clampedSamples ∧ t.status.counters.lateSwaps = s.status.counters.lateSwaps ∧
      t.status.counters.abandonedSwaps = s.status.counters.abandonedSwaps ∧
      t.status.counters.rejectedRecords = s.status.counters.rejectedRecords := by
  induction h with
  | refl => exact ⟨rfl, rfl, rfl, rfl⟩
  | tail _ hstep ih =>
    cases hstep with
    | report f => rw [State.report_counters]; exact ih
    | count c n hc =>
      cases c
      case orphan => exact ih
      case padding => exact ih
      case saturation => exact ih
      case eviction => exact ih
      all_goals cases hc
    | goes _ hstatus => rw [hstatus]; exact ih

theorem PathSteps.causeTold {s t : State} (h : PathSteps s t) : CauseTold s t := by
  induction h with
  | refl => exact .refl s
  | tail _ hstep ih =>
    cases hstep with
    | report f => exact ih.trans (State.report_causeTold _ f)
    | count c n _ => exact ih.trans (.of_eq rfl)
    | goes _ hstatus => exact ih.trans (.of_eq (congrArg StatusWriter.write hstatus))

@[simp] theorem State.retryInsert_aside (s : State) : s.retryInsert.aside = s.aside := s.retryInsert_pathSteps.aside

@[simp] theorem State.retryInsert_port (s : State) : s.retryInsert.port = s.port := congrArg Aside.port s.retryInsert_aside

@[simp] theorem State.retryInsert_planes (s : State) : s.retryInsert.planes = s.planes := congrArg Aside.planes s.retryInsert_aside

end Sys2Proof.Machine
end

section
/-! The laws of Safety at reset, and that every move keeps each (R4, R22, R24, R37, R77, R95, R96, R99, R118, R137, R160, R169). -/

namespace Sys2Proof.Machine

/-! ### The power-on state -/

theorem State.reset_planeInv : State.reset.PlaneInv where
  layout :=
    { scannedBound := rfl
      readyA := fun i h => by cases h; rfl
      readyB := nofun
      apart := nofun }
  load := ⟨rfl, by decide⟩
  switch := rfl

theorem State.reset_capacities : State.reset.Capacities := by constructor <;> decide

theorem Tracker.reset_sound : Tracker.reset.Sound where
  sensors := by decide
  thresholds := by decide
  dwell := by decide
  limit := by decide
  period := by decide
  fused := nofun
  disagreeing := by decide
  agreeing := by decide
  candidate := nofun

theorem State.reset_settingsInv : State.reset.SettingsInv where
  mark := by decide
  settle := by decide
  age := by decide
  swap := by decide
  tracker := Tracker.reset_sound
  counters := by decide

theorem State.reset_collectorInv : State.reset.CollectorInv where
  keys := List.Pairwise.nil
  filled := fun _ h => absurd h List.not_mem_nil
  hand := fun job h => by cases (show Translator.idle = .writing job from h)
  todo := fun job h => by cases (show Translator.idle = .writing job from h)

theorem State.reset_fillLaw : State.reset.FillLaw where
  guards := fun _ => Nat.zero_le _
  backgrounds := fun _ => Nat.zero_le _
  mark := fun p => by cases p <;> rfl
  bound := nofun

theorem State.reset_neverIdle : State.reset.neverIdle := fun _ x => by cases x <;> rfl

/-- R23: the identity layout passes what R37 asks. -/
theorem identityLayout_isSound : identityLayout.Sound where
  count := by decide
  order := List.pairwise_singleton ..
  placed := by decide
  windows := List.pairwise_singleton ..
  rects := List.pairwise_singleton ..
  spine := nofun
  guard := nofun

theorem State.reset_slot_held {i : Fin 8} {l : Layout} (h : State.reset.layouts.slots[i].held = some l) : l = identityLayout := by
  have hslots : ∀ i : Fin 8, State.reset.layouts.slots[i].held = if i = 0 then some identityLayout else none := by decide
  rw [hslots] at h
  split at h
  · exact (Option.some.inj h).symm
  · cases h

theorem State.reset_layoutsInv : State.reset.LayoutsInv where
  slots := fun _ _ h => State.reset_slot_held h ▸ identityLayout_isSound
  staging := nofun

/-- Settles O11: each law is a small fact about the literal power-on state. -/
theorem invariantsHoldAtReset : Obligations.InvariantsHoldAtReset :=
  ⟨State.reset_planeInv, State.reset_capacities, State.reset_settingsInv, State.reset_collectorInv, State.reset_fillLaw,
    State.reset_neverIdle, State.reset_layoutsInv, Memory.reset_wf⟩

/-! ### Slots -/

theorem slots_set_get {α : Type} (slots : Vector α 8) (i j : Fin 8) (x : α) :
    (slots.set i x)[j] = if i = j then x else slots[j] := by
  simp [Vector.getElem_set, Fin.ext_iff]

/-! ### Planes, slots and the switch (R22, R24, R95, R99, R160) -/

/-- The laws read bindings, roles, select line, switch, slots, the load's slot and busy alone. -/
theorem State.PlaneInv.of_eq {s t : State} (hs : s.PlaneInv)
    (hbinding : ∀ p, (t.planes.entry p).binding = (s.planes.entry p).binding) (hscanned : t.planes.scanned = s.planes.scanned)
    (hselect : t.planes.select = s.planes.select) (hswitch : t.planes.switch = s.planes.switch)
    (hslots : t.layouts.slots = s.layouts.slots) (hload : t.loadSlot = s.loadSlot) (hbusy : t.decoder.busy = s.decoder.busy) :
    t.PlaneInv := by
  have hsome (u : State) : u.layouts.load.isSome = u.loadSlot.isSome := by unfold State.loadSlot; split <;> simp_all
  have ha : t.planes.a.binding = s.planes.a.binding := hbinding .A
  have hb : t.planes.b.binding = s.planes.b.binding := hbinding .B
  obtain ⟨⟨hbound, hreadyA, hreadyB, hapart⟩, ⟨hbusyload, hloading⟩, hlaw⟩ := hs
  refine ⟨⟨?_, ?_, ?_, ?_⟩, ⟨?_, ?_⟩, ?_⟩
  · rw [hbinding, hscanned]; exact hbound
  · intro i hi; rw [hslots]; exact hreadyA i (by rw [← hbinding]; exact hi)
  · intro i hi; rw [hslots]; exact hreadyB i (by rw [← hbinding]; exact hi)
  · rw [ha, hb]; exact hapart
  · rw [hbusy, hbusyload, hsome, hsome, hload]
  · rw [hslots, hload]; exact hloading
  · simpa only [State.switchLaw, Planes.idle, hbinding, hscanned, hselect, hswitch] using hlaw

theorem State.PlaneInv.of_ruled {s t : State} (hs : s.PlaneInv) (h : t.ruled = s.ruled) : t.PlaneInv := by
  simp only [State.ruled, Ruled.mk.injEq] at h
  obtain ⟨-, -, -, -, -, -, hlayouts, hplanes, -, -, hbusy, -⟩ := h
  exact hs.of_eq (fun p => by rw [hplanes]) (by rw [hplanes]) (by rw [hplanes]) (by rw [hplanes]) (by rw [hlayouts])
    (by simp only [State.loadSlot, hlayouts]) hbusy

/-- R22: while no load is in progress no slot is LOADING. -/
theorem State.LoadLaw.no_loading {s : State} (h : s.LoadLaw) (hidle : s.decoder.busy = false) (i : Fin 8) :
    s.layouts.slots[i].isLoading = false := by
  have hload : s.loadSlot = none := by
    have := h.busy.symm.trans hidle
    unfold State.loadSlot
    split
    · next l hl => rw [hl] at this; cases this
    · rfl
  cases hi : s.layouts.slots[i].isLoading with
  | false => rfl
  | true => rw [(h.loading i).1 hi] at hload; cases hload

theorem State.LayoutLaw.slots_of_unbound {s t : State} {i : Fin 8} {x : Slot} (h : s.LayoutLaw)
    (hfree : ∀ p, (s.planes.entry p).binding ≠ some i) (hplanes : t.planes = s.planes)
    (hslots : t.layouts.slots = s.layouts.slots.set i x) : t.LayoutLaw := by
  have hready (p : Plane) (hp : s.bindingReady p) : t.bindingReady p := by
    intro j hj
    rw [hplanes] at hj
    have hne : i ≠ j := fun hij => hfree p (hij ▸ hj)
    rw [hslots, slots_set_get, if_neg hne]
    exact hp j hj
  exact ⟨by rw [hplanes]; exact h.scannedBound, hready .A h.readyA, hready .B h.readyB, by rw [hplanes]; exact h.apart⟩

theorem State.binding_ne_of_slotBound {t : Planes} {i : Fin 8} (h : t.slotBound i = false) (p : Plane) :
    (t.entry p).binding ≠ some i := by
  simp only [Planes.slotBound, Bool.or_eq_false_iff, decide_eq_false_iff_not] at h
  cases p
  · exact h.1
  · exact h.2

theorem restoredSlot_not_loading (x : Slot) : (restoredSlot x).isLoading = false := by
  unfold restoredSlot
  split <;> rfl

/-- R26: a slot begins to load. -/
theorem State.PlaneInv.loadBegins {s t : State} {i : Fin 8} {l : Load} {x : Slot} (hs : s.PlaneInv)
    (hfree : s.planes.slotBound i = false) (hidle : s.decoder.busy = false) (hplanes : t.planes = s.planes)
    (hslots : t.layouts.slots = s.layouts.slots.set i x) (hx : x.isLoading = true) (hload : t.layouts.load = some l)
    (hl : l.slot = i) (hbusy : t.decoder.busy = true) : t.PlaneInv := by
  refine ⟨hs.layout.slots_of_unbound (State.binding_ne_of_slotBound hfree) hplanes hslots,
    ⟨by rw [hbusy, hload]; rfl, fun j => ?_⟩, by simpa only [State.switchLaw, hplanes] using hs.switch⟩
  have hslot : t.loadSlot = some i := by simp [State.loadSlot, hload, hl]
  rw [hslots, slots_set_get, hslot]
  split
  · next hij => simp [hx, hij]
  · next hij =>
    rw [hs.load.no_loading hidle j]
    simp [hij]

/-- R37 to R39: a load has ended. -/
theorem State.PlaneInv.loadEnds {s t : State} {l : Load} {x : Slot} (hs : s.PlaneInv) (h : s.layouts.load = some l)
    (hplanes : t.planes = s.planes) (hslots : t.layouts.slots = s.layouts.slots.set l.slot x) (hx : x.isLoading = false)
    (hload : t.layouts.load = none) (hbusy : t.decoder.busy = false) : t.PlaneInv := by
  have hslot : s.loadSlot = some l.slot := by simp [State.loadSlot, h]
  have hloading : s.layouts.slots[l.slot].isLoading = true := (hs.load.loading l.slot).2 hslot
  have hfree (p : Plane) : (s.planes.entry p).binding ≠ some l.slot := by
    intro hb
    have hready : s.layouts.slots[l.slot].isReady = true := by
      cases p
      · exact hs.layout.readyA _ hb
      · exact hs.layout.readyB _ hb
    revert hloading hready
    cases s.layouts.slots[l.slot] <;> simp [Slot.isReady, Slot.isLoading]
  refine ⟨hs.layout.slots_of_unbound hfree hplanes hslots, ⟨by rw [hbusy, hload]; rfl, fun j => ?_⟩,
    by simpa only [State.switchLaw, hplanes] using hs.switch⟩
  have hnone : t.loadSlot = none := by simp [State.loadSlot, hload]
  rw [hslots, slots_set_get, hnone]
  split
  · simp [hx]
  · next hij => simpa [hslot, hij] using hs.load.loading j

/-- R101: what the checks of BIND ask is what the laws need. -/
theorem State.PlaneInv.setBinding {s : State} {i : Fin 8} {p : Plane} {background : Bool} (hs : s.PlaneInv)
    (h : s.bindRefusal i p background = none) : (s.setBinding p (some i)).PlaneInv := by
  rw [State.bindRefusal_eq] at h
  split_ifs at h with hscan hsteady _ hready hother
  obtain ⟨⟨hbound, hreadyA, hreadyB, -⟩, ⟨hbusy, hloading⟩, hlaw⟩ := hs
  have hready' : s.layouts.slots[i].isReady = true := by simpa using hready
  rw [not_not] at hsteady
  refine ⟨⟨?_, ?_, ?_, ?_⟩, ⟨hbusy, hloading⟩, ?_⟩
  · cases p <;> cases hscanned : s.planes.scanned <;>
      simp_all [State.setBinding, Planes.setEntry, Planes.entry]
  · intro j hj
    cases p
    · obtain rfl : i = j := by simpa [State.setBinding, Planes.setEntry, Planes.entry] using hj
      exact hready'
    · exact hreadyA j hj
  · intro j hj
    cases p
    · exact hreadyB j hj
    · obtain rfl : i = j := by simpa [State.setBinding, Planes.setEntry, Planes.entry] using hj
      exact hready'
  · cases p <;> simp_all [State.setBinding, Planes.setEntry, Planes.entry, Plane.other]
    intro j hj hij
    exact hother (hij ▸ hj)
  · cases p <;> simpa [State.switchLaw, State.setBinding, Planes.setEntry, hsteady] using hlaw

theorem Plane.other_ne (p : Plane) : p.other ≠ p := by cases p <;> decide

theorem Plane.eq_or_eq_other (p q : Plane) : q = p ∨ q = p.other := by cases p <;> cases q <;> decide

@[simp] theorem Plane.other_other (p : Plane) : p.other.other = p := by cases p <;> rfl

@[simp] theorem Planes.entry_setEntry_same (t : Planes) (p : Plane) (e : PlaneEntry) : (t.setEntry p e).entry p = e := by
  cases p <;> rfl

theorem Planes.entry_setEntry_of_ne (t : Planes) {p q : Plane} (e : PlaneEntry) (h : q ≠ p) :
    (t.setEntry p e).entry q = t.entry q := by
  cases p with
  | A =>
    cases q with
    | A => exact absurd rfl h
    | B => rfl
  | B =>
    cases q with
    | A => rfl
    | B => exact absurd rfl h

/-- R102: the binding of an IDLE plane goes while the switch is STEADY. -/
theorem State.PlaneInv.unbinds {s t : State} {p : Plane} {e : PlaneEntry} (hs : s.PlaneInv) (hscan : s.planes.scanned ≠ p)
    (hsteady : s.planes.switch = .steady) (he : e.binding = none) (hplanes : t.planes = s.planes.setEntry p e)
    (hlayouts : t.layouts = s.layouts) (hbusy : t.decoder.busy = s.decoder.busy) : t.PlaneInv := by
  obtain ⟨⟨hbound, hreadyA, hreadyB, hapart⟩, ⟨hbusyload, hloading⟩, hlaw⟩ := hs
  have hready (q : Plane) (hq : s.bindingReady q) : t.bindingReady q := by
    intro j hj
    rw [hplanes] at hj
    rw [hlayouts]
    by_cases hqp : q = p
    · subst hqp; simp [he] at hj
    · exact hq j (by rwa [Planes.entry_setEntry_of_ne _ _ hqp] at hj)
  refine ⟨⟨?_, hready .A hreadyA, hready .B hreadyB, ?_⟩, ⟨by rw [hbusy, hlayouts]; exact hbusyload, ?_⟩, ?_⟩
  · have hkept : t.planes.scanned = s.planes.scanned := by rw [hplanes]; cases p <;> rfl
    rw [hkept, hplanes, Planes.entry_setEntry_of_ne _ _ hscan]
    exact hbound
  · intro i hi hj
    rw [hplanes] at hi hj
    cases p
    · simp [Planes.setEntry, he] at hi
    · simp [Planes.setEntry, he] at hj
  · simpa only [State.loadSlot, hlayouts] using hloading
  · cases p <;> simpa [State.switchLaw, hplanes, Planes.setEntry, hsteady] using hlaw

/-- A change of the switch, the roles and the select line that leaves bindings and slots alone. -/
theorem State.PlaneInv.switches {s t : State} (hs : s.PlaneInv) (ha : t.planes.a = s.planes.a) (hb : t.planes.b = s.planes.b)
    (hlayouts : t.layouts = s.layouts) (hbusy : t.decoder.busy = s.decoder.busy)
    (hbound : (t.planes.entry t.planes.scanned).binding.isSome = true) (hlaw : t.switchLaw) : t.PlaneInv := by
  refine ⟨⟨hbound, ?_, ?_, by rw [ha, hb]; exact hs.layout.apart⟩, ⟨by rw [hbusy, hlayouts]; exact hs.load.busy, ?_⟩, hlaw⟩
  · intro i hi
    rw [hlayouts]
    exact hs.layout.readyA i ((congrArg PlaneEntry.binding ha).symm.trans hi)
  · intro i hi
    rw [hlayouts]
    exact hs.layout.readyB i ((congrArg PlaneEntry.binding hb).symm.trans hi)
  · simpa only [State.loadSlot, hlayouts] using hs.load.loading

/-- The switch's law reads which planes are bound, and the switch. -/
theorem State.switchLaw_of_eq {s t : State} (hs : s.switchLaw)
    (hbinding : ∀ p, (t.planes.entry p).binding = (s.planes.entry p).binding) (hscanned : t.planes.scanned = s.planes.scanned)
    (hselect : t.planes.select = s.planes.select) (hswitch : t.planes.switch = s.planes.switch) : t.switchLaw := by
  simpa only [State.switchLaw, Planes.idle, hbinding, hscanned, hselect, hswitch] using hs

theorem State.switchLaw_of_steady {s t : State} (hs : s.switchLaw) (hsteady : s.planes.switch = .steady)
    (hscanned : t.planes.scanned = s.planes.scanned) (hselect : t.planes.select = s.planes.select)
    (hswitch : t.planes.switch = s.planes.switch) : t.switchLaw := by
  simpa only [State.switchLaw, hscanned, hselect, hswitch, hsteady] using hs

/-- R99, R103, R105, R106: every move keeps the switch's law. -/
theorem Move.keeps_switchLaw (s t : State) (h : Move s t) (hs : s.switchLaw) : t.switchLaw := by
  cases h
  case same h =>
    simp only [State.ruled, Ruled.mk.injEq] at h
    obtain ⟨-, -, -, -, -, -, -, hplanes, -⟩ := h
    exact State.switchLaw_of_eq hs (fun p => by rw [hplanes]) (by rw [hplanes]) (by rw [hplanes]) (by rw [hplanes])
  case powerOn h =>
    simp only [State.ruled, Ruled.mk.injEq] at h
    obtain ⟨-, -, -, -, -, -, -, hplanes, -⟩ := h
    exact State.switchLaw_of_eq State.reset_planeInv.switch (fun p => by rw [hplanes]) (by rw [hplanes]) (by rw [hplanes])
      (by rw [hplanes])
  case headEnds =>
    split
    · exact State.switchLaw_of_eq hs (fun p => State.setPending_binding _ _ _ _) (State.setPending_scanned _ _ _)
        (State.setPending_select _ _ _) (State.setPending_switch _ _ _)
    · exact hs
  case jobsCancelled => exact State.switchLaw_of_eq hs (fun p => by cases p <;> rfl) rfl rfl rfl
  case binds i p background h =>
    rw [State.bindRefusal_eq] at h
    split_ifs at h with _ hsteady
    rw [not_not] at hsteady
    split <;> exact State.switchLaw_of_steady hs hsteady (by cases p <;> rfl) (by cases p <;> rfl) (by cases p <;> rfl)
  case unbinds p _ hsteady =>
    exact State.switchLaw_of_steady hs hsteady (by cases p <;> rfl) (by cases p <;> rfl) (by cases p <;> rfl)
  case arms r hsteady hbound htarget hmoved =>
    have hselect : s.planes.select = s.planes.scanned := by simpa [State.switchLaw, hsteady] using hs
    exact ⟨htarget, htarget ▸ hbound, by simpa [hmoved] using hselect⟩
  case notes r r' h htarget hmoved =>
    simp only [State.switchLaw, h] at hs
    simp only [State.switchLaw, State.setSwitch, htarget, hmoved]
    exact hs
  case withdraws r h hmoved =>
    simp only [State.switchLaw, h, hmoved] at hs
    simpa [State.switchLaw] using hs.2.2
  case movesSelect r h =>
    simp only [State.switchLaw, h] at hs
    exact ⟨hs.1, hs.2.1, rfl⟩
  case swaps r h => rfl
  case settings => exact State.switchLaw_of_eq hs (fun _ => rfl) rfl rfl rfl
  all_goals exact hs

theorem Move.keeps_planeInv (s t : State) (h : Move s t) (hs : s.PlaneInv) : t.PlaneInv := by
  have hlaw : t.switchLaw := h.keeps_switchLaw s t hs.switch
  cases h
  case same h => exact hs.of_ruled h
  case powerOn h => exact State.reset_planeInv.of_ruled h
  case headEnds job rest _ =>
    split
    · exact hs.of_eq (fun p => State.setPending_binding _ _ _ _) (State.setPending_scanned _ _ _) (State.setPending_select _ _ _)
        (State.setPending_switch _ _ _) rfl rfl rfl
    · exact hs.of_eq (fun _ => rfl) rfl rfl rfl rfl rfl rfl
  case jobsCancelled => exact hs.of_eq (fun p => by cases p <;> rfl) rfl rfl rfl rfl rfl rfl
  case binds h =>
    split
    · exact (hs.setBinding h).of_eq (fun p => State.setPending_binding _ _ _ _) (State.setPending_scanned _ _ _)
        (State.setPending_select _ _ _) (State.setPending_switch _ _ _) rfl rfl rfl
    · exact hs.setBinding h
  case unbinds p hscan hsteady => exact hs.unbinds hscan hsteady rfl rfl rfl rfl
  case arms => exact hs.switches rfl rfl rfl rfl hs.layout.scannedBound hlaw
  case notes => exact hs.switches rfl rfl rfl rfl hs.layout.scannedBound hlaw
  case withdraws => exact hs.switches rfl rfl rfl rfl hs.layout.scannedBound hlaw
  case movesSelect => exact hs.switches rfl rfl rfl rfl hs.layout.scannedBound hlaw
  case swaps r h =>
    have hs' := hs.switch
    simp only [State.switchLaw, h] at hs'
    exact hs.switches rfl rfl rfl rfl hs'.2.1 hlaw
  case loadBegins i offset hfree hidle => exact hs.loadBegins hfree hidle rfl rfl rfl rfl rfl rfl
  case loadGoesOn l l' h hslot _ =>
    exact hs.of_eq (fun _ => rfl) rfl rfl rfl rfl (by simp [State.loadSlot, h, hslot]) rfl
  case loadEnds l x h hslot =>
    refine hs.loadEnds h rfl rfl ?_ rfl rfl
    obtain rfl | ⟨layout, rfl, -⟩ := hslot
    · exact restoredSlot_not_loading _
    · rfl
  case rests h =>
    refine ⟨⟨hs.layout.scannedBound, hs.layout.readyA, hs.layout.readyB, hs.layout.apart⟩, ⟨?_, hs.load.loading⟩, hlaw⟩
    show false = s.layouts.load.isSome
    rw [h]; rfl
  case slotEmpties i hfree hidle =>
    refine ⟨hs.layout.slots_of_unbound (State.binding_ne_of_slotBound hfree) rfl rfl, ⟨hs.load.busy, fun j => ?_⟩, hlaw⟩
    rw [State.setSlot_slots, slots_set_get]
    split
    · next hij =>
      rw [← hs.load.loading j |>.trans (by rfl : s.loadSlot = some j ↔ (s.setSlot i .empty).loadSlot = some j), ← hij,
        hs.load.no_loading hidle i]
      rfl
    · exact hs.load.loading j
  all_goals exact hs.of_eq (fun _ => rfl) rfl rfl rfl rfl rfl rfl

/-- Settles O3: every move keeps the three laws of planes, slots and the switch. -/
theorem planeLawsAreKept : Obligations.PlaneLawsAreKept := fun _ _ => step_keeps Move.keeps_planeInv

/-! ### Capacities (R4, R10, R77, R79, R137) -/

theorem State.capacities_iff {s : State} :
    s.Capacities ↔ s.inbound.length ≤ 32 ∧ s.front.highWater ≤ 32 ∧ s.outQueue.length ≤ 16 ∧ s.collector.Places ∧
      s.fill.jobs.length ≤ 4 :=
  ⟨fun h => ⟨h.inbound, h.mark, h.output, ⟨h.table, h.ordinary, h.priority⟩, h.fill⟩,
    fun ⟨hinbound, hmark, houtput, ⟨htable, hordinary, hpriority⟩, hfill⟩ =>
      ⟨hinbound, hmark, houtput, htable, hordinary, hpriority, hfill⟩⟩

theorem State.Capacities.of_ruled {s t : State} (hs : s.Capacities) (h : t.ruled = s.ruled) : t.Capacities := by
  simp only [State.ruled, Ruled.mk.injEq] at h
  obtain ⟨hmark, -, hinbound, houtput, -, hcollector, -, -, -, hjobs, -⟩ := h
  rw [State.capacities_iff, hmark, hinbound, houtput, hcollector, hjobs]
  exact State.capacities_iff.1 hs

theorem State.fillFull_eq_false_iff {s : State} : s.fillFull = false ↔ s.fill.jobs.length < 4 := by
  rw [← Bool.not_eq_true, State.fillFull_iff, Nat.not_le]

theorem State.fill_room_of_bindRefusal {s : State} {i : Fin 8} {p : Plane} (h : s.bindRefusal i p true = none) :
    s.fill.jobs.length < 4 := by
  rw [State.bindRefusal_eq] at h
  split_ifs at h with _ _ _ _ _ hfull
  simpa using hfull

theorem Move.keeps_capacities (s t : State) (h : Move s t) (hs : s.Capacities) : t.Capacities := by
  cases h
  case same h => exact hs.of_ruled h
  case powerOn h => exact State.reset_capacities.of_ruled h
  case inboundLeaves h => exact { hs with inbound := h.length_le.trans hs.inbound }
  case inboundJoins h =>
    have := hs.mark
    exact { hs with inbound := by simp only [List.length_append, List.length_singleton]; omega }
  case segmentsLeave h => exact { hs with output := h.length_le.trans hs.output }
  case segmentJoins h =>
    have : s.outQueue.length < 16 := decide_eq_true_iff.1 h
    exact { hs with output := by simp only [List.length_append, List.length_singleton, Config.outputPlaces]; omega }
  case collectorCalm h =>
    have hplaces := h.places ⟨hs.table, hs.ordinary, hs.priority⟩
    exact { hs with table := hplaces.table, ordinary := hplaces.ordinary, priority := hplaces.priority }
  case inserts i id sleeping h =>
    have hplaces := Collector.insert_places (i := i) (id := id) (sleeping := sleeping) ⟨hs.table, hs.ordinary, hs.priority⟩
    exact { hs with table := hplaces.table, ordinary := hplaces.ordinary, priority := hplaces.priority }
  case settings hmark _ _ _ => exact { hs with mark := hmark.2 }
  case guardJoins hroom _ _ =>
    have := State.fillFull_eq_false_iff.1 hroom
    exact { hs with fill := by simp only [State.setJobs_jobs, List.length_append, List.length_singleton, Config.fillPlaces]; omega }
  case hostJoins hroom _ =>
    have := State.fillFull_eq_false_iff.1 hroom
    exact { hs with fill := by simp only [State.setJobs_jobs, List.length_append, List.length_singleton, Config.fillPlaces]; omega }
  case headMoves job job' rest h _ _ =>
    have := hs.fill
    rw [h] at this
    exact { hs with fill := this }
  case headEnds job rest h =>
    have := hs.fill
    rw [h] at this
    split
    · exact { hs with fill := Nat.le_of_succ_le this }
    · exact { hs with fill := Nat.le_of_succ_le this }
  case jobsCancelled => exact { hs with fill := Nat.zero_le _ }
  case binds i p background h =>
    split
    · next hb =>
      subst hb
      have hroom := State.fill_room_of_bindRefusal h
      have hfill : (s.fill.jobs ++ [newJob p .background]).length ≤ Config.fillPlaces := by
        simp only [List.length_append, List.length_singleton, Config.fillPlaces]; omega
      exact { hs with fill := hfill }
    · exact { hs with }
  case unbinds => exact { hs with fill := (List.length_filter_le _ _).trans hs.fill }
  all_goals exact { hs with }

/-- Settles O4: no move lets a queue outgrow its places. -/
theorem capacitiesAreKept : Obligations.CapacitiesAreKept := fun _ _ => step_keeps Move.keeps_capacities

/-! ### Settings and counts (R5, R12, R85, R108, R118, R127, R132, R169) -/

theorem State.SettingsInv.of_ruled {s t : State} (hs : s.SettingsInv) (h : t.ruled = s.ruled) : t.SettingsInv := by
  simp only [State.ruled, Ruled.mk.injEq] at h
  obtain ⟨hmark, hsettle, -, -, -, hcollector, -, hplanes, htracker, -, -, hcounters⟩ := h
  exact ⟨hmark ▸ hs.mark, hsettle ▸ hs.settle, hcollector ▸ hs.age, hplanes ▸ hs.swap, htracker ▸ hs.tracker,
    hcounters ▸ hs.counters⟩

theorem raise_le (n k : Nat) : Machine.raise n k ≤ 65535 := Nat.min_le_left _ _

theorem Counters.raise_le {counters : Counters} (c : Counter) (n : Nat) (h : ∀ k ∈ counters.toList, k ≤ Config.counterTop) :
    ∀ k ∈ (counters.raise n c).toList, k ≤ Config.counterTop := by
  have hraise (m : Nat) : Machine.raise m n ≤ Config.counterTop := Machine.raise_le m n
  cases c <;> simp_all [Counters.raise, Counters.toList]

theorem Move.keeps_settingsInv (s t : State) (h : Move s t) (hs : s.SettingsInv) : t.SettingsInv := by
  cases h
  case same h => exact hs.of_ruled h
  case powerOn h => exact State.reset_settingsInv.of_ruled h
  case count c n => exact { hs with counters := Counters.raise_le c n hs.counters }
  case clearCounters => exact { hs with counters := by simp [Counters.zero, Counters.toList] }
  case collectorCalm h => exact { hs with age := h.interval.symm ▸ hs.age }
  case inserts i id sleeping h =>
    have hage : (s.collector.insert i id sleeping).collector.ageInterval = s.collector.ageInterval :=
      congrArg Prod.fst (Collector.insert_ageing s.collector i id sleeping)
    exact { hs with age := hage.symm ▸ hs.age }
  case settings hmark hsettle hage hlimit => exact { hs with mark := hmark, settle := hsettle, age := hage, swap := hlimit }
  case headEnds =>
    split
    · exact { hs with swap := (State.setPending_swapLimit _ _ _).symm ▸ hs.swap }
    · exact { hs with }
  case binds p _ _ =>
    split
    · cases p <;> exact { hs with }
    · cases p <;> exact { hs with }
  case unbinds p _ _ => cases p <;> exact { hs with }
  case tracks h => exact { hs with tracker := h hs.tracker }
  all_goals exact { hs with }

/-- Settles O5: no move takes a setting or a count out of its range. -/
theorem settingsStayInRange : Obligations.SettingsStayInRange := fun _ _ => step_keeps Move.keeps_settingsInv

/-! ### The collector (R77) -/

theorem State.collectorInv_iff {s : State} : s.CollectorInv ↔ s.collector.TableLaw ∧ s.HandsFilled :=
  ⟨fun h => ⟨⟨h.keys, h.filled⟩, fun job hjob => ⟨h.hand job hjob, h.todo job hjob⟩⟩,
    fun ⟨⟨hkeys, hfilled⟩, hhands⟩ =>
      ⟨hkeys, hfilled, fun job hjob => (hhands job hjob).hand, fun job hjob => (hhands job hjob).todo⟩⟩

theorem State.CollectorInv.of_ruled {s t : State} (hs : s.CollectorInv) (h : t.ruled = s.ruled) : t.CollectorInv := by
  simp only [State.ruled, Ruled.mk.injEq] at h
  obtain ⟨-, -, -, -, htranslator, hcollector, -⟩ := h
  rw [State.collectorInv_iff, State.HandsFilled, htranslator, hcollector]
  exact State.collectorInv_iff.1 hs

theorem Move.keeps_collectorInv (s t : State) (h : Move s t) (hs : s.CollectorInv) : t.CollectorInv := by
  obtain ⟨htable, hhands⟩ := State.collectorInv_iff.1 hs
  cases h
  case same h => exact hs.of_ruled h
  case powerOn h => exact State.reset_collectorInv.of_ruled h
  case translatorRests x h => exact State.collectorInv_iff.2 ⟨htable, fun job hjob => absurd hjob (h job)⟩
  case inHand job h => exact State.collectorInv_iff.2 ⟨htable, fun job' hjob => by cases hjob; exact h hhands⟩
  case collectorCalm h => exact State.collectorInv_iff.2 ⟨h.tableLaw htable, hhands⟩
  case inserts h => exact State.collectorInv_iff.2 ⟨Collector.insert_tableLaw (h hhands) htable, hhands⟩
  case headEnds => split <;> exact { hs with }
  case binds => split <;> exact { hs with }
  all_goals exact { hs with }

/-- Settles O6: entries only leave, are merged, or are made of a lane with an enabled byte for a key the table does not hold. -/
theorem collectorLawIsKept : Obligations.CollectorLawIsKept := fun _ _ => step_keeps Move.keeps_collectorInv

/-! ### The fill queue (R96, R137) -/

theorem State.FillLaw.of_eq {s t : State} (hs : s.FillLaw) (hjobs : t.fill.jobs = s.fill.jobs)
    (hentry : ∀ p, t.planes.entry p = s.planes.entry p) : t.FillLaw := by
  obtain ⟨hguards, hbackgrounds, hmark, hbound⟩ := hs
  exact ⟨by rw [hjobs]; exact hguards, by rw [hjobs]; exact hbackgrounds, by simpa only [hjobs, hentry] using hmark,
    by simpa only [hjobs, hentry] using hbound⟩

theorem State.FillLaw.of_ruled {s t : State} (hs : s.FillLaw) (h : t.ruled = s.ruled) : t.FillLaw := by
  simp only [State.ruled, Ruled.mk.injEq] at h
  obtain ⟨-, -, -, -, -, -, -, hplanes, -, hjobs, -⟩ := h
  exact hs.of_eq hjobs fun p => by rw [hplanes]

theorem FillJob.isGuard_iff {p : Plane} {j : FillJob} : j.isGuard p = true ↔ j.plane = p ∧ j.kind = .guard := by
  simp [FillJob.isGuard]

theorem FillJob.isBackground_iff {p : Plane} {j : FillJob} : j.isBackground p = true ↔ j.plane = p ∧ j.kind = .background := by
  simp [FillJob.isBackground]

theorem filter_length_eq_zero_of_any {α : Type} {f : α → Bool} {l : List α} (h : l.any f = false) : (l.filter f).length = 0 := by
  rw [List.length_eq_zero_iff, List.filter_eq_nil_iff]
  simpa using h

/-- A job that joins at the tail, single of its plane and kind, with its plane's mark if it is a BACKGROUND job. -/
theorem State.FillLaw.joins {s t : State} {j : FillJob} (hs : s.FillLaw) (hjobs : t.fill.jobs = s.fill.jobs ++ [j])
    (hguard : j.kind = .guard → s.fill.jobs.any (FillJob.isGuard j.plane) = false)
    (hbackground : j.kind = .background → s.fill.jobs.any (FillJob.isBackground j.plane) = false)
    (hmark : ∀ p, (t.planes.entry p).backgroundPending = ((s.planes.entry p).backgroundPending || j.isBackground p))
    (hbound : ∀ p, (s.planes.entry p).binding.isSome = true → (t.planes.entry p).binding.isSome = true)
    (hj : (t.planes.entry j.plane).binding.isSome = true) : t.FillLaw where
  guards p := by
    rw [hjobs, List.filter_append, List.length_append]
    have := hs.guards p
    cases hk : j.isGuard p with
    | false => simpa [hk] using this
    | true =>
      obtain ⟨rfl, hkind⟩ := FillJob.isGuard_iff.1 hk
      simp [hk, filter_length_eq_zero_of_any (hguard hkind)]
  backgrounds p := by
    rw [hjobs, List.filter_append, List.length_append]
    have := hs.backgrounds p
    cases hk : j.isBackground p with
    | false => simpa [hk] using this
    | true =>
      obtain ⟨rfl, hkind⟩ := FillJob.isBackground_iff.1 hk
      simp [hk, filter_length_eq_zero_of_any (hbackground hkind)]
  mark p := by
    rw [hjobs, hmark, hs.mark]
    simp
  bound k hk := by
    rw [hjobs] at hk
    rcases List.mem_append.1 hk with hk | hk
    · exact hbound _ (hs.bound k hk)
    · rw [List.mem_singleton.1 hk]; exact hj

/-- R147: all jobs of a plane, and its mark, leave together. -/
theorem State.FillLaw.leaves {s t : State} {p : Plane} (hs : s.FillLaw) (hjobs : t.fill.jobs = s.fill.jobs.filter fun j => j.plane ≠ p)
    (hmark : (t.planes.entry p).backgroundPending = false) (hother : ∀ q, q ≠ p → t.planes.entry q = s.planes.entry q) :
    t.FillLaw where
  guards q := by
    rw [hjobs]
    exact ((List.filter_sublist.filter _).length_le).trans (hs.guards q)
  backgrounds q := by
    rw [hjobs]
    exact ((List.filter_sublist.filter _).length_le).trans (hs.backgrounds q)
  mark q := by
    rw [hjobs]
    by_cases hq : q = p
    · subst hq
      rw [hmark, eq_comm, List.any_eq_false]
      intro j hj
      have hne : j.plane ≠ q := by simpa using (List.mem_filter.1 hj).2
      simp [FillJob.isBackground, hne]
    · rw [hother q hq, hs.mark, List.any_filter]
      congr 1
      funext j
      by_cases hj : j.plane = q <;> simp [FillJob.isBackground, hj, hq]
  bound j hj := by
    rw [hjobs] at hj
    obtain ⟨hmem, hne⟩ := List.mem_filter.1 hj
    rw [hother j.plane (by simpa using hne)]
    exact hs.bound j hmem

/-- R140: the head job goes on, of its plane and kind. -/
theorem State.FillLaw.headMoves {s : State} {job job' : FillJob} {rest : List FillJob} (hs : s.FillLaw)
    (h : s.fill.jobs = job :: rest) (hplane : job'.plane = job.plane) (hkind : job'.kind = job.kind) :
    (s.setJobs (job' :: rest)).FillLaw := by
  obtain ⟨hguards, hbackgrounds, hmark, hbound⟩ := hs
  have hguard (p : Plane) : job'.isGuard p = job.isGuard p := by simp only [FillJob.isGuard, hplane, hkind]
  have hback (p : Plane) : job'.isBackground p = job.isBackground p := by simp only [FillJob.isBackground, hplane, hkind]
  rw [h] at hguards hbackgrounds hmark hbound
  refine ⟨fun p => ?_, fun p => ?_, fun p => ?_, fun j hj => ?_⟩
  · have := hguards p
    simp only [State.setJobs_jobs, List.filter_cons, hguard] at this ⊢
    split at this <;> simp_all
  · have := hbackgrounds p
    simp only [State.setJobs_jobs, List.filter_cons, hback] at this ⊢
    split at this <;> simp_all
  · simpa [hback] using hmark p
  · rcases List.mem_cons.1 hj with rfl | hj
    · rw [hplane]; exact hbound job (List.mem_cons_self ..)
    · exact hbound j (List.mem_cons_of_mem _ hj)

/-- R146: the head job leaves, with its plane's mark if it is the BACKGROUND job. -/
theorem State.FillLaw.headEnds {s t : State} {job : FillJob} {rest : List FillJob} (hs : s.FillLaw) (h : s.fill.jobs = job :: rest)
    (hjobs : t.fill.jobs = rest) (hbinding : ∀ p, (t.planes.entry p).binding = (s.planes.entry p).binding)
    (hmark : ∀ p, (t.planes.entry p).backgroundPending = ((s.planes.entry p).backgroundPending && !job.isBackground p)) :
    t.FillLaw := by
  obtain ⟨hguards, hbackgrounds, hmarks, hbound⟩ := hs
  rw [h] at hguards hbackgrounds hmarks hbound
  refine ⟨fun p => ?_, fun p => ?_, fun p => ?_, fun j hj => ?_⟩
  · rw [hjobs]; exact (((List.sublist_cons_self job rest).filter _).length_le).trans (hguards p)
  · rw [hjobs]; exact (((List.sublist_cons_self job rest).filter _).length_le).trans (hbackgrounds p)
  · rw [hjobs, hmark, hmarks]
    cases hk : job.isBackground p with
    | false => simp [hk]
    | true =>
      have hle := hbackgrounds p
      rw [List.filter_cons_of_pos hk, List.length_cons] at hle
      have hnil : rest.filter (FillJob.isBackground p) = [] := List.length_eq_zero_iff.1 (by omega)
      have hnone : rest.any (FillJob.isBackground p) = false := by
        rw [List.any_eq_false]
        simpa using List.filter_eq_nil_iff.1 hnil
      simp [hnone]
  · rw [hjobs] at hj
    rw [hbinding]
    exact hbound j (List.mem_cons_of_mem _ hj)

theorem State.setPending_mark (s : State) (p q : Plane) (m : Bool) :
    ((s.setPending p m).planes.entry q).backgroundPending = if q = p then m else (s.planes.entry q).backgroundPending := by
  cases p <;> cases q <;> rfl

theorem State.setBinding_entry (s : State) (p q : Plane) (b : Option (Fin 8)) :
    (s.setBinding p b).planes.entry q = { s.planes.entry q with binding := if q = p then b else (s.planes.entry q).binding } := by
  cases p <;> cases q <;> rfl

/-- R101, R143: a plane is bound, with its BACKGROUND job if that is asked; while it was not bound it had none. -/
theorem State.FillLaw.binds {s : State} {i : Fin 8} {p : Plane} {background : Bool} (hs : s.FillLaw)
    (h : s.bindRefusal i p background = none) :
    (if background then (s.setBinding p (some i)).joinBackground p else s.setBinding p (some i)).FillLaw := by
  rw [State.bindRefusal_eq] at h
  split_ifs at h with _ _ hunbound _ _ _
  rw [not_not] at hunbound
  have hnone : s.fill.jobs.any (FillJob.isBackground p) = false := by
    rw [List.any_eq_false]
    intro j hj hback
    have hbound := hs.bound j hj
    rw [(FillJob.isBackground_iff.1 hback).1, hunbound] at hbound
    cases hbound
  have hkept (q : Plane) (hq : (s.planes.entry q).binding.isSome = true) :
      ((s.setBinding p (some i)).planes.entry q).binding.isSome = true := by
    rw [State.setBinding_entry]
    dsimp only
    split
    · rfl
    · exact hq
  split
  · refine hs.joins rfl (by simp [newJob]) (fun _ => hnone) (fun q => ?_) (fun q hq => ?_) ?_
    · rw [State.joinBackground, State.setPending_mark]
      show (if q = p then true else ((s.setBinding p (some i)).planes.entry q).backgroundPending) = _
      rw [State.setBinding_entry]
      by_cases hq : q = p
      · simp [hq, FillJob.isBackground, newJob]
      · simp [hq, FillJob.isBackground, newJob, Ne.symm hq]
    · rw [State.joinBackground, State.setPending_binding]
      exact hkept q hq
    · rw [State.joinBackground, State.setPending_binding]
      show ((s.setBinding p (some i)).planes.entry p).binding.isSome = true
      rw [State.setBinding_entry]
      simp
  · refine ⟨hs.guards, hs.backgrounds, fun q => ?_, fun j hj => hkept _ (hs.bound j hj)⟩
    rw [State.setBinding_entry]
    exact hs.mark q

theorem Move.keeps_fillLaw (s t : State) (h : Move s t) (hs : s.FillLaw) : t.FillLaw := by
  cases h
  case same h => exact hs.of_ruled h
  case powerOn h => exact State.reset_fillLaw.of_ruled h
  case guardJoins hroom hnone hbound =>
    exact hs.joins rfl (fun _ => hnone) (by simp [newJob]) (fun p => by simp [FillJob.isBackground, newJob]) (fun _ h => h) hbound
  case hostJoins p r c hroom hbound =>
    exact hs.joins rfl (by simp [hostJob, newJob]) (by simp [hostJob, newJob])
      (fun p => by simp [FillJob.isBackground, hostJob, newJob]) (fun _ h => h) hbound
  case headMoves h hplane hkind => exact hs.headMoves h hplane hkind
  case headEnds job rest h =>
    split
    · next hkind =>
      refine hs.headEnds h rfl (fun q => State.setPending_binding _ _ _ _) fun q => ?_
      rw [State.setPending_mark]
      by_cases hq : q = job.plane
      · simp [hq, FillJob.isBackground, hkind]
      · simp [hq, FillJob.isBackground, Ne.symm hq]
    · next hkind => exact hs.headEnds h rfl (fun _ => rfl) fun q => by simp [FillJob.isBackground, hkind]
  case jobsCancelled => exact ⟨fun _ => Nat.zero_le _, fun _ => Nat.zero_le _, fun p => by cases p <;> rfl, nofun⟩
  case binds h => exact hs.binds h
  case unbinds p hscan hsteady =>
    refine hs.leaves rfl ?_ fun q hq => Planes.entry_setEntry_of_ne _ _ hq
    simp [hs.mark p]
  all_goals exact hs.of_eq rfl fun p => by cases p <;> rfl

/-- Settles O7: jobs join singly with their marks and leave with them. -/
theorem fillQueueLawIsKept : Obligations.FillQueueLawIsKept := fun _ _ _ => step_keeps Move.keeps_fillLaw

/-! ### Installed layouts (R37) -/

theorem State.LayoutsInv.of_eq {s t : State} (hs : s.LayoutsInv) (h : t.layouts = s.layouts) : t.LayoutsInv :=
  ⟨by rw [h]; exact hs.slots, by rw [h]; exact hs.staging⟩

theorem Slot.held_loading_layout? {x : Slot} {l : Layout} (h : (Slot.loading x.layout?).held = some l) : x.held = some l := by
  cases x with
  | empty => cases h
  | loading remembered => cases h
  | ready layout => exact h

theorem restoredSlot_held (x : Slot) : (restoredSlot x).held = x.held := by
  unfold restoredSlot
  split <;> rfl

/-- A slot set to what holds no layout that was not sound before keeps every layout sound. -/
theorem State.LayoutsInv.set_slot {s t : State} {i : Fin 8} {x : Slot} (hs : s.LayoutsInv)
    (hslots : t.layouts.slots = s.layouts.slots.set i x) (hx : ∀ l, x.held = some l → l.Sound)
    (hload : ∀ l, t.layouts.load = some l → l.staging.Sound) : t.LayoutsInv := by
  refine ⟨fun j l hj => ?_, hload⟩
  rw [hslots, slots_set_get] at hj
  split at hj
  · exact hx l hj
  · exact hs.slots j l hj

theorem Move.keeps_layoutsInv (s t : State) (h : Move s t) (hs : s.LayoutsInv) : t.LayoutsInv := by
  cases h
  case same h =>
    simp only [State.ruled, Ruled.mk.injEq] at h
    obtain ⟨-, -, -, -, -, -, hlayouts, -⟩ := h
    exact hs.of_eq hlayouts
  case powerOn h =>
    simp only [State.ruled, Ruled.mk.injEq] at h
    obtain ⟨-, -, -, -, -, -, hlayouts, -⟩ := h
    exact State.reset_layoutsInv.of_eq hlayouts
  case loadBegins i offset _ _ =>
    refine hs.set_slot rfl (fun l hl => hs.slots i l (Slot.held_loading_layout? hl)) fun l hl => ?_
    cases hl
    exact Staging.cleared_sound
  case loadGoesOn l l' h _ hstaging =>
    refine ⟨hs.slots, fun k hk => ?_⟩
    cases hk
    exact hstaging (hs.staging l h)
  case loadEnds l x h hslot =>
    refine hs.set_slot rfl (fun k hk => ?_) nofun
    obtain rfl | ⟨layout, rfl, hsound⟩ := hslot
    · rw [restoredSlot_held] at hk
      exact hs.slots l.slot k hk
    · cases hk
      exact hsound (hs.staging l h)
  case slotEmpties i _ _ => exact hs.set_slot (i := i) rfl nofun hs.staging
  case headEnds => split <;> exact hs.of_eq rfl
  case binds => split <;> exact hs.of_eq rfl
  all_goals exact hs.of_eq rfl

/-- Settles O9: a slot comes to hold a layout only restored, or installed after the checks of its load. -/
theorem installedLayoutsAreSound : Obligations.InstalledLayoutsAreSound := fun _ _ => step_keeps Move.keeps_layoutsInv

end Sys2Proof.Machine
end

section
/-! What only its own commands change: the queue, memory, tracker, frame monitor, base, settings and bindings (1.2, 1.3, 6.2, 6.3, 7.2,
10.3), for every operation that leaves them alone. -/

namespace Sys2Proof.Machine

/-- The fields that each have their own few commands. -/
structure Own where
  pending : List Instr
  mem : Memory
  tracker : Tracker
  frame : FrameMonitor
  strap1 : Bool
  strap0 : Bool
  highWater : Nat
  settleSetting : Nat
  ageInterval : Nat
  swapLimit : Nat
  mask : BitVec 14
  bindingA : Option (Fin 8)
  bindingB : Option (Fin 8)

def State.own (s : State) : Own where
  pending := s.pending
  mem := s.mem
  tracker := s.tracker
  frame := s.frame
  strap1 := s.front.strap1
  strap0 := s.front.strap0
  highWater := s.front.highWater
  settleSetting := s.front.settleSetting
  ageInterval := s.collector.ageInterval
  swapLimit := s.planes.swapLimit
  mask := s.status.mask
  bindingA := s.planes.a.binding
  bindingB := s.planes.b.binding

/-- What the end of a step keeps includes them. -/
theorem State.own_of_kept {s t : State} (h : t.kept = s.kept) : t.own = s.own := by
  simp only [State.kept, Kept.mk.injEq] at h
  obtain ⟨-, hfront, -, -, -, -, ha, hb, hlimit, hage, -, hframe, htracker, -, hmask, hmem, hpending⟩ := h
  simp only [State.own, hfront, ha, hb, hlimit, hage, hframe, htracker, hmask, hmem, hpending]

theorem State.own_binding {s t : State} (h : t.own = s.own) (p : Plane) :
    (t.planes.entry p).binding = (s.planes.entry p).binding := by
  cases p
  · exact congrArg Own.bindingA h
  · exact congrArg Own.bindingB h

/-! ### Status writer and decoder -/

@[simp] theorem State.recordCause_own (s : State) : s.recordCause.own = s.own := State.own_of_kept s.recordCause_kept

@[simp] theorem State.report_own (s : State) (f : EventFlag) : (s.report f).own = s.own := State.own_of_kept (s.report_kept f)

@[simp] theorem State.recordResult_own (s : State) (r : Result) : (s.recordResult r).own = s.own := by
  simp [State.recordResult]; rfl

@[simp] theorem State.offerRecord_own (s : State) : s.offerRecord.own = s.own := by
  unfold State.offerRecord
  split <;> rfl

@[simp] theorem State.recordWritten_own (s : State) : s.recordWritten.own = s.own := by
  unfold State.recordWritten
  split
  · rfl
  · exact s.offerRecord_own
  all_goals rfl

@[simp] theorem State.offerDue_own (s : State) : s.offerDue.own = s.own := by
  unfold State.offerDue
  split
  · exact s.offerRecord_own
  all_goals rfl

@[simp] theorem State.reportSaturations_own (s : State) (n : Nat) : (s.reportSaturations n).own = s.own :=
  State.own_of_kept (s.reportSaturations_kept n)

@[simp] theorem State.reevaluate_own (s : State) : s.reevaluate.own = s.own := State.own_of_kept s.reevaluate_kept

@[simp] theorem State.rejectRecord_own (s : State) : s.rejectRecord.own = s.own := State.report_own _ _

/-! ### Collector -/

theorem State.collector_own {s : State} {c : Collector} (h : c.ageInterval = s.collector.ageInterval) :
    { s with collector := c }.own = s.own := by
  simp [State.own, h]

/-! ### Layout table -/

@[simp] theorem State.endLoad_own (s : State) (x : Slot) (i : Fin 8) (r : Result) : (s.endLoad x i r).own = s.own := by
  simp [State.endLoad]; rfl

@[simp] theorem State.abortLoad_own (s : State) : s.abortLoad.own = s.own := by
  unfold State.abortLoad
  split
  · rfl
  · exact State.endLoad_own _ _ _ _

@[simp] theorem State.recordFetched_own (s : State) (l : Load) : (s.recordFetched l).own = s.own := by
  unfold State.recordFetched
  dsimp only
  split
  · rfl
  · exact State.endLoad_own _ _ _ _
  · exact State.endLoad_own _ _ _ _

@[simp] theorem State.beginLoad_own (s : State) (i : Fin 8) (offset : Nat) : (s.beginLoad i offset).own = s.own := by
  unfold State.beginLoad
  rw [State.awaitWrites_eq]
  rfl

/-! ### Fill engine -/

@[simp] theorem State.setPending_own (s : State) (p : Plane) (m : Bool) : (s.setPending p m).own = s.own :=
  State.own_of_kept (s.setPending_kept p m)

@[simp] theorem State.buildBurst_own (s : State) (job : FillJob) (c : Cursor) : (s.buildBurst job c).own = s.own := by
  unfold State.buildBurst
  dsimp only
  rw [State.reportSaturations_own]
  rfl

@[simp] theorem State.completeJob_own (s : State) (job : FillJob) (rest : List FillJob) : (s.completeJob job rest).own = s.own := by
  have h : ((s.setJobs rest).report .fillDone).own = s.own := State.report_own _ _
  unfold State.completeJob
  dsimp only
  split
  · exact (State.setPending_own _ _ _).trans h
  · exact h
  · exact h

@[simp] theorem State.startJob_own (s : State) (job : FillJob) (rest : List FillJob) : (s.startJob job rest).own = s.own := by
  unfold State.startJob
  dsimp only
  split
  · exact State.completeJob_own _ _ _
  · exact State.buildBurst_own _ _ _

@[simp] theorem State.takeUpJob_own (s : State) : s.takeUpJob.own = s.own := by
  unfold State.takeUpJob
  split
  · split
    · rfl
    · split <;> simp
  · rfl

@[simp] theorem State.resumeJob_own (s : State) : s.resumeJob.own = s.own := by
  unfold State.resumeJob
  split
  · rfl
  · split <;> simp

@[simp] theorem State.settlePause_own (s : State) : s.settlePause.own = s.own := by
  unfold State.settlePause
  split <;> rfl

@[simp] theorem State.jobAdvanced_own (s : State) (job : FillJob) (rest : List FillJob) (n : Nat) :
    (s.jobAdvanced job rest n).own = s.own := by
  unfold State.jobAdvanced
  split
  · simp
  · dsimp only
    split
    · simp
    · split
      · simp only [State.buildBurst_own, State.settlePause_own]; rfl
      · simp only [State.settlePause_own]; rfl

@[simp] theorem State.fillWritten_own (s : State) : s.fillWritten.own = s.own := by
  unfold State.fillWritten
  split
  · rfl
  · dsimp only
    split
    · exact State.settlePause_own _
    · split
      · exact State.settlePause_own _
      · exact State.jobAdvanced_own _ _ _ _

@[simp] theorem State.endPause_own (s : State) : s.endPause.own = s.own := State.resumeJob_own _

@[simp] theorem State.askPause_own (s : State) : s.askPause.own = s.own := by
  unfold State.askPause
  split <;> rfl

@[simp] theorem State.cancelAllJobs_own (s : State) (b : Bool) : (s.cancelAllJobs b).own = s.own := rfl

@[simp] theorem State.cancelHead_own (s : State) (p : Plane) : (s.cancelHead p).own = s.own := by
  obtain ⟨b, hb⟩ := s.cancelHead_eq p
  rw [hb]; rfl

@[simp] theorem State.withoutJobs_own (s : State) (p : Plane) : (s.withoutJobs p).own = s.own := by
  unfold State.withoutJobs
  dsimp only
  split
  · rw [State.setPending_own]; rfl
  · rfl

@[simp] theorem State.cancelJobs_own (s : State) (p : Plane) : (s.cancelJobs p).own = s.own := by
  rw [State.cancelJobs_eq]
  split <;> simp

/-! ### Swap, resets and link -/

@[simp] theorem State.swapDone_own (s : State) (r : ArmRecord) : (s.swapDone r).own = s.own := State.own_of_kept (s.swapDone_kept r)

@[simp] theorem State.resetSwitch_own (s : State) : s.resetSwitch.1.own = s.own := by
  unfold State.resetSwitch
  split
  · rfl
  · split
    · exact s.swapDone_own _
    · rfl

@[simp] theorem State.disownFlight_own (s : State) : s.disownFlight.own = s.own := rfl

@[simp] theorem State.linkBlocksReset_own (s : State) : s.linkBlocksReset.own = s.own := rfl

@[simp] theorem State.linkResetBeforeSwitch_own (s : State) : s.linkResetBeforeSwitch.own = s.own := by
  have h : (s.linkBlocksReset.abortLoad.cancelAllJobs false).disownFlight.own = s.own := by simp
  exact h

@[simp] theorem State.linkReset_own (s : State) : s.linkReset.own = s.own := by
  rw [State.linkReset_eq]
  split <;> simp

@[simp] theorem State.enterSleepDrain_own (s : State) : s.enterSleepDrain.own = s.own := by
  have h : { s.setLink .sleepDrain with collector := s.collector.flushAll }.own = s.own :=
    State.collector_own (s := s.setLink .sleepDrain) (Collector.flushAll_calm s.collector).interval
  exact (State.askPause_own _).trans h

@[simp] theorem State.leaveSettle_own (s : State) : s.leaveSettle.own = s.own := State.offerDue_own _

@[simp] theorem State.settleEnd_own (s : State) : s.settleEnd.own = s.own := by
  rw [State.settleEnd_eq]
  split <;> simp

@[simp] theorem State.blankStart_own (s : State) : s.blankStart.own = s.own := by
  unfold State.blankStart
  split
  · rfl
  · split
    · rfl
    · split
      · rfl
      · exact s.report_own _

@[simp] theorem State.abandon_own (s : State) : s.abandon.own = s.own := by
  have h : (s.withdraw.report .swapAbandoned).own = s.own := State.report_own _ _
  exact (State.reevaluate_own _).trans h

@[simp] theorem State.withdrawRecord_own (s : State) : s.withdrawRecord.own = s.own := by
  unfold State.withdrawRecord
  split <;> rfl

@[simp] theorem State.softEmptied_own (s : State) : s.softEmptied.own = s.own := by
  have h : s.answerZeros.emptyPath.withdrawRecord.own = s.own := State.withdrawRecord_own _
  exact h

@[simp] theorem State.softResetBlocks_own (s : State) : s.softResetBlocks.own = s.own := by
  rw [State.softResetBlocks_eq]
  simp

@[simp] theorem State.softResetBeforeRecord_own (s : State) : s.softResetBeforeRecord.own = s.own := by
  have h : s.softResetBlocks.resetSwitch.1.own = s.own := by simp
  exact h

@[simp] theorem State.takeReset_own (s : State) : s.takeReset.own = s.own := by
  rw [State.takeReset_eq, State.recordCause_own]
  split <;> simp

/-! ### Control records that keep them all -/

@[simp] theorem State.takeLoad_own (slot offset : Word) (s : State) : (s.takeLoad slot offset).own = s.own := by
  unfold State.takeLoad
  split
  · simp
  · split
    · simp
    · split <;> simp

@[simp] theorem State.takeUnload_own (slot : Word) (s : State) : (s.takeUnload slot).own = s.own := by
  unfold State.takeUnload
  split
  · simp
  · split
    · simp
    · exact State.recordResult_own _ _

@[simp] theorem State.takeCommit_own (s : State) : s.takeCommit.own = s.own := by
  unfold State.takeCommit
  split
  · simp
  · split
    · simp
    · exact (State.recordResult_own _ _).trans (State.own_of_kept (s.arm_kept _))

@[simp] theorem State.takeCancel_own (s : State) : s.takeCancel.own = s.own := by
  unfold State.takeCancel
  split
  · simp
  · split
    · simp
    · exact State.recordResult_own _ _

@[simp] theorem State.takeFill_own (plane x y width height colour : Word) (s : State) :
    (s.takeFill plane x y width height colour).own = s.own := by
  unfold State.takeFill
  split
  · simp
  · split
    · simp
    · split
      · simp
      · split
        · simp
        · exact State.recordResult_own _ _

@[simp] theorem State.takeAck_own (mask clear : Word) (s : State) : (s.takeAck mask clear).own = s.own :=
  State.recordResult_own _ _

/-! ### Requests and bursts -/

@[simp] theorem State.placeSegment_own (s : State) (k : SegmentKind) (a : Nat) (q : Payload) : (s.placeSegment k a q).own = s.own := rfl

@[simp] theorem State.takeRequest_own (s : State) (r : Request) : (s.takeRequest r).own = s.own := by
  have h : (s.openResponse r).1.own = s.own := by unfold State.openResponse; split <;> rfl
  exact (State.own_of_kept (State.workOn_kept _ _ _)).trans h

@[simp] theorem State.pieceHandedOn_own (s : State) : s.pieceHandedOn.own = s.own := State.own_of_kept s.pieceHandedOn_kept

@[simp] theorem State.goOn_own (s : State) (job : WriteJob) : (s.goOn job).own = s.own := State.own_of_kept (s.goOn_kept job)

@[simp] theorem State.offerInsert_own (s : State) (job : WriteJob) (i : Insert) : (s.offerInsert job i).own = s.own :=
  State.own_of_kept (s.offerInsert_kept job i)

@[simp] theorem State.enquire_own (s : State) (job : ReadJob) : (s.enquire job).own = s.own := State.own_of_kept (s.enquire_kept job)

@[simp] theorem State.placeRead_own (s : State) (job : ReadJob) : (s.placeRead job).own = s.own := by
  unfold State.placeRead
  split
  · rfl
  · simp

@[simp] theorem State.noteDrains_own (s : State) : s.noteDrains.own = s.own := by
  unfold State.noteDrains
  split <;> rfl

@[simp] theorem State.noteSegment_own (s : State) (id : Nat) : (s.noteSegment id).own = s.own := by
  unfold State.noteSegment
  split <;> rfl

@[simp] theorem State.releaseRead_own (s : State) (id : Nat) : (s.releaseRead id).own = s.own := by
  unfold State.releaseRead
  split
  · split
    · split
      · simp
      · rfl
    · rfl
  all_goals rfl

@[simp] theorem State.flushWritten_own (s : State) (id : Nat) : (s.flushWritten id).own = s.own := by
  unfold State.flushWritten
  rw [State.releaseRead_own, State.noteDrains_own]
  rfl

@[simp] theorem State.segmentWritten_own (s : State) (id : Nat) : (s.segmentWritten id).own = s.own := by
  unfold State.segmentWritten
  rw [State.noteSegment_own]
  unfold State.clearOutstanding
  split <;> rfl

/-- What a completion tells its source. -/
@[simp] theorem State.reportCompletion_own (s : State) (f : Flight) : (s.reportCompletion f).own = s.own := by
  unfold State.reportCompletion
  split
  · split
    · unfold State.fetchComplete
      split <;> simp
    · simp
    · simp
    · simp
    · split <;> simp
    · simp
  · rfl

@[simp] theorem State.finishRead_own (s : State) : s.finishRead.own = s.own := by
  unfold State.finishRead
  split
  · split
    · exact State.pieceHandedOn_own _
    · rfl
  all_goals rfl

@[simp] theorem State.setAssembled_own (s : State) (id i : Nat) (qs : List (Quad LaneSource)) :
    (s.setAssembled id i qs).own = s.own := State.own_of_kept (s.setAssembled_kept id i qs)

@[simp] theorem State.assemble_own (s : State) (segment beat : Nat) (data : DataBeat) : (s.assemble segment beat data).own = s.own := by
  unfold State.assemble
  dsimp only
  split
  · rfl
  · next job _ =>
    have h : (State.setAssembled { s with translator := s.translator.mapRead fun job => job.fill segment beat data } job.response job.first
        job.assembly).sendUpstream.own = s.own := (State.setAssembled_own _ _ _ _)
    exact (State.finishRead_own _).trans h

@[simp] theorem State.deliverBeat_own (s : State) (origin : Origin) (beat : Nat) (data : DataBeat) :
    (s.deliverBeat origin beat data).own = s.own := by
  unfold State.deliverBeat
  split
  · unfold State.takeFetchBeat
    split <;> rfl
  · rfl
  · rfl
  · rfl
  · simp
  all_goals rfl

@[simp] theorem State.returnBeat_own (s : State) (f : Flight) (other : DataBeat) : (s.returnBeat f other).own = s.own := by
  unfold State.returnBeat
  dsimp only
  split
  · exact State.deliverBeat_own _ _ _ _
  · rfl

end Sys2Proof.Machine
end

section
/-! Which commands change the queue, memory, tracker, frame monitor, base, settings and bindings (1.2, 1.3, 6.2, 6.3, 7.2, 7.8, 9.2,
10.3), and the step and its end (95_what_each_step_holds.md). -/

namespace Sys2Proof.Machine

/-! ### Control records that change one of them -/

/-- No control record touches the queue, memory, the frame monitor or the base. -/
structure Own.SameBase (o o' : Own) : Prop where
  pending : o'.pending = o.pending
  mem : o'.mem = o.mem
  frame : o'.frame = o.frame
  strap1 : o'.strap1 = o.strap1
  strap0 : o'.strap0 = o.strap0

theorem Own.SameBase.of_eq {o o' : Own} (h : o' = o) : o.SameBase o' := by
  subst h
  exact ⟨rfl, rfl, rfl, rfl, rfl⟩

@[simp] theorem State.takeSetMap_own (closed partly opened : Word) (s : State) :
    (s.takeSetMap closed partly opened).own = { s.own with tracker := (s.takeSetMap closed partly opened).tracker } := by
  have hrecord (u : State) (r : Result) : (u.recordResult r).own = { u.own with tracker := (u.recordResult r).tracker } := by
    have h := State.recordResult_own u r
    rw [h, show (u.recordResult r).tracker = u.tracker from congrArg Own.tracker h]
    rfl
  unfold State.takeSetMap
  split
  · rw [hrecord]; rfl
  · rw [hrecord]

@[simp] theorem State.takeSetTracker_own (ce cx ox oe dwell limit offset0 offset1 period : Word) (s : State) :
    (s.takeSetTracker ce cx ox oe dwell limit offset0 offset1 period).own =
      { s.own with tracker := (s.takeSetTracker ce cx ox oe dwell limit offset0 offset1 period).tracker } := by
  have hrecord (u : State) (r : Result) : (u.recordResult r).own = { u.own with tracker := (u.recordResult r).tracker } := by
    have h := State.recordResult_own u r
    rw [h, show (u.recordResult r).tracker = u.tracker from congrArg Own.tracker h]
    rfl
  unfold State.takeSetTracker
  dsimp only
  split
  · rw [hrecord]; rfl
  · rw [hrecord]

/-- R164: SET-PATH changes its five settings alone. -/
theorem State.takeSetPath_own (highWater settle age swapLimit mask : Word) (s : State) :
    (s.takeSetPath highWater settle age swapLimit mask).own =
      { s.own with
        highWater := clamp 8 32 highWater.toNat
        settleSetting := clamp 1 255 settle.toNat
        ageInterval := clamp 1 50 age.toNat
        swapLimit := clamp 10 1000 swapLimit.toNat
        mask := maskOf mask } := State.recordResult_own _ _

theorem State.setBinding_own (s : State) (p : Plane) (b : Option (Fin 8)) :
    (s.setBinding p b).own =
      { s.own with bindingA := (s.setBinding p b).own.bindingA, bindingB := (s.setBinding p b).own.bindingB } := by
  cases p <;> rfl

/-- R101: BIND changes the bindings alone. -/
theorem State.takeBind_own (slot plane flag : Word) (s : State) : ∃ a b,
    (s.takeBind slot plane flag).own = { s.own with bindingA := a, bindingB := b } := by
  unfold State.takeBind
  split
  · exact ⟨_, _, State.recordResult_own _ _⟩
  · exact ⟨_, _, State.recordResult_own _ _⟩
  · next p i _ _ =>
    split
    · exact ⟨_, _, State.recordResult_own _ _⟩
    · refine ⟨(s.setBinding p (some i)).own.bindingA, (s.setBinding p (some i)).own.bindingB, (State.recordResult_own _ _).trans ?_⟩
      split
      · exact (State.setPending_own _ _ _).trans (s.setBinding_own p (some i))
      · exact s.setBinding_own p (some i)

/-- R102: UNBIND changes the bindings alone. -/
theorem State.takeUnbind_own (plane : Word) (s : State) : ∃ a b,
    (s.takeUnbind plane).own = { s.own with bindingA := a, bindingB := b } := by
  unfold State.takeUnbind
  split
  · exact ⟨_, _, State.recordResult_own _ _⟩
  · next p _ =>
    have hunbind : (s.unbindPlane p).own = (s.setBinding p none).own := by
      unfold State.unbindPlane
      dsimp only
      rw [State.cancelJobs_own]
      exact State.collector_own (Collector.discard_calm s.collector p).interval
    split
    · exact ⟨_, _, State.recordResult_own _ _⟩
    · split
      · exact ⟨_, _, State.recordResult_own _ _⟩
      · split
        · exact ⟨_, _, State.recordResult_own _ _⟩
        · exact ⟨_, _, ((State.recordResult_own _ _).trans hunbind).trans (s.setBinding_own p none)⟩

theorem commandOf_sameBase (command : Word) (w : Nat → Word) (s : State) : s.own.SameBase (commandOf command w s).own := by
  obtain ⟨f, hf⟩ : ∃ f, commandOf command w = f := ⟨_, rfl⟩
  rw [hf]
  unfold commandOf at hf
  split at hf <;> subst hf
  · exact .of_eq (State.takeLoad_own _ _ _)
  · exact .of_eq (State.takeUnload_own _ _)
  · obtain ⟨a, b, h⟩ := s.takeBind_own (w 0) (w 1) (w 2)
    rw [h]; exact ⟨rfl, rfl, rfl, rfl, rfl⟩
  · obtain ⟨a, b, h⟩ := s.takeUnbind_own (w 0)
    rw [h]; exact ⟨rfl, rfl, rfl, rfl, rfl⟩
  · exact .of_eq s.takeCommit_own
  · exact .of_eq s.takeCancel_own
  · exact .of_eq (State.takeFill_own _ _ _ _ _ _ _)
  · rw [State.takeSetMap_own]; exact ⟨rfl, rfl, rfl, rfl, rfl⟩
  · rw [State.takeSetTracker_own]; exact ⟨rfl, rfl, rfl, rfl, rfl⟩
  · rw [State.takeSetPath_own]; exact ⟨rfl, rfl, rfl, rfl, rfl⟩
  · exact .of_eq (State.takeAck_own _ _ _)
  · exact .of_eq s.takeReset_own
  · exact .of_eq (s.recordResult_own _)

/-! ### The judgement -/

/-- What holds of the record's command where it is taken, and of the state as it stood, holds of the answer. -/
theorem State.arrive_own {P : Own → Prop} {s : State} {command check : Word} {act : State → State} (hs : P s.own)
    (h : P (act (s.noteTaken command)).own) : P (s.arrive command check act).own := by
  unfold State.arrive
  split
  · exact h
  · rw [State.rejectRecord_own]; exact hs

theorem State.controlRecord_own {P : Own → Prop} {s : State} {command check : Word} {act : State → State} (hs : P s.own)
    (h : P (act (s.noteTaken command)).own) : P (s.controlRecord command check act).state.own := by
  unfold State.controlRecord
  split
  · exact State.arrive_own hs h
  · exact hs

/-- A record whose command keeps them all. -/
theorem State.controlRecord_keeps {s : State} {command check : Word} {act : State → State} (h : ∀ u : State, (act u).own = u.own) :
    (s.controlRecord command check act).state.own = s.own :=
  State.controlRecord_own (P := fun o => o = s.own) rfl (h _)

/-! ### What a mailbox write does besides its record -/

/-- Everything of a mailbox write's placement but what its record does. -/
theorem State.placeMailbox_sameBase (s : State) (h : RouterHold) (p : Piece) (beats : List DataBeat) :
    s.own.SameBase (s.placeMailbox h p beats).own := by
  have hchoice (u : State) : u.placementChoice.own = u.own := by
    unfold State.placementChoice
    split
    · exact State.own_of_kept u.choicePoint_kept
    · rfl
  let u := State.pieceHandedOn (State.placementChoice { s.placePass h p with mailboxOutstanding := some s.nextId })
  have hplaced : u.own = s.own := by
    simp only [u, State.pieceHandedOn_own, hchoice]
    rfl
  have hrecord (bytes : List (BitVec 8)) : u.own.SameBase (u.snoop bytes).own :=
    State.arrive_own (.of_eq rfl) (commandOf_sameBase _ _ (u.noteTaken _))
  exact hplaced ▸ hrecord _

/-! ### Every command -/

/-- The rows that touch the tracker besides power-on reset. -/
def touchesTracker : Instr → Bool
  | .powerOnResetRelease | .sampleTimer | .sensorRead _ _ _ | .i2cTimeout | .latchRise | .passSegmentPlace | .setMap _ _ _ _
  | .setTracker _ _ _ _ _ _ _ _ _ _ => true
  | _ => false

/-- The rows that touch the frame monitor besides power-on reset. -/
def touchesFrame : Instr → Bool
  | .powerOnResetRelease | .frameStart | .scanStopped => true
  | _ => false

/-- The rows that touch a setting of SET-PATH besides power-on reset. -/
def touchesSettings : Instr → Bool
  | .passSegmentPlace | .setPath _ _ _ _ _ _ => true
  | _ => false

/-- The rows that touch a binding besides power-on reset. -/
def touchesBindings : Instr → Bool
  | .passSegmentPlace | .bind _ _ _ _ | .unbind _ _ => true
  | _ => false

/-- What a command leaves of the fields that each have their own commands. -/
structure OwnFrame (c : Instr) (o o' : Own) : Prop where
  pending : o'.pending = o.pending
  mem : c ≠ .burstComplete → o'.mem = o.mem
  strap1 : o'.strap1 = o.strap1
  strap0 : o'.strap0 = o.strap0
  tracker : touchesTracker c = false → o'.tracker = o.tracker
  frame : touchesFrame c = false → o'.frame = o.frame
  settings : touchesSettings c = false →
    o'.highWater = o.highWater ∧ o'.settleSetting = o.settleSetting ∧ o'.ageInterval = o.ageInterval ∧ o'.swapLimit = o.swapLimit ∧
      o'.mask = o.mask
  bindings : touchesBindings c = false → o'.bindingA = o.bindingA ∧ o'.bindingB = o.bindingB

theorem OwnFrame.of_eq {c : Instr} {o o' : Own} (h : o' = o) : OwnFrame c o o' := by
  subst h
  exact ⟨rfl, fun _ => rfl, rfl, rfl, fun _ => rfl, fun _ => rfl, fun _ => ⟨rfl, rfl, rfl, rfl, rfl⟩, fun _ => ⟨rfl, rfl⟩⟩

/-- A command that touches the tracker. -/
theorem OwnFrame.of_tracker {c : Instr} {o o' : Own} (hc : touchesTracker c = true) (h : ∃ t, o' = { o with tracker := t }) :
    OwnFrame c o o' := by
  obtain ⟨t, rfl⟩ := h
  exact ⟨rfl, fun _ => rfl, rfl, rfl, fun hf => by simp [hc] at hf, fun _ => rfl, fun _ => ⟨rfl, rfl, rfl, rfl, rfl⟩, fun _ => ⟨rfl, rfl⟩⟩

/-- A command that touches the frame monitor. -/
theorem OwnFrame.of_frame {c : Instr} {o o' : Own} (hc : touchesFrame c = true) (h : ∃ f, o' = { o with frame := f }) :
    OwnFrame c o o' := by
  obtain ⟨f, rfl⟩ := h
  exact ⟨rfl, fun _ => rfl, rfl, rfl, fun _ => rfl, fun hf => by simp [hc] at hf, fun _ => ⟨rfl, rfl, rfl, rfl, rfl⟩, fun _ => ⟨rfl, rfl⟩⟩

/-- A command that touches the bindings. -/
theorem OwnFrame.of_bindings {c : Instr} {o o' : Own} (hc : touchesBindings c = true)
    (h : ∃ a b, o' = { o with bindingA := a, bindingB := b }) : OwnFrame c o o' := by
  obtain ⟨a, b, rfl⟩ := h
  exact ⟨rfl, fun _ => rfl, rfl, rfl, fun _ => rfl, fun _ => rfl, fun _ => ⟨rfl, rfl, rfl, rfl, rfl⟩, fun hf => by simp [hc] at hf⟩

/-- R129: the tracker after a rising latch edge is all that changes of these fields. -/
theorem State.latchRising_own (s : State) : s.latchRising.own = { s.own with tracker := s.tracker.latchClosed } :=
  State.own_of_kept s.latchRising_kept

/-- R119: the tracker after the evaluation of a sample is all that changes of these fields. -/
theorem State.evaluate_own (s : State) (o0 o1 : Option Nat) :
    (s.evaluate o0 o1).own = { s.own with tracker := s.tracker.evaluate s.pins.closedLatch o0 o1 } := by
  have htold : (s.sampleTold o0 o1).own = { s.own with tracker := s.tracker.evaluate s.pins.closedLatch o0 o1 } := by
    unfold State.sampleTold
    split
    · rw [State.report_own]; rfl
    · rfl
  rw [State.evaluate_eq]
  split
  · exact htold
  · rw [State.reevaluate_own, State.report_own, htold]

theorem State.endRead_own (s : State) (o : Option Nat) : ∃ t, (s.endRead o).own = { s.own with tracker := t } := by
  unfold State.endRead
  split
  · exact ⟨s.tracker, rfl⟩
  · exact ⟨_, rfl⟩
  · exact ⟨_, s.evaluate_own _ _⟩

/-- R12, R98, R119, R131: what the release of power-on reset changes of these fields. -/
theorem State.release_own (s : State) : ∃ t, s.release.own =
    { s.own with tracker := t, frame := { s.frame with scanTimer := some 50 } } := by
  unfold State.release
  dsimp only
  split <;> split
  · exact ⟨_, State.latchRising_own _⟩
  · exact ⟨_, rfl⟩
  · exact ⟨_, State.latchRising_own _⟩
  · exact ⟨_, rfl⟩

theorem act_ownFrame (c : Instr) (s : State) (hc : ∀ a b, c ≠ .powerOnReset a b) : OwnFrame c s.own (act c s).state.own := by
  cases c with
  | powerOnReset a b => exact absurd rfl (hc a b)
  | powerOnResetRelease =>
    simp only [act, actPowerOnResetRelease]
    split
    · obtain ⟨t, h⟩ := s.release_own
      show OwnFrame _ _ s.release.own
      rw [h]
      exact ⟨rfl, fun _ => rfl, rfl, rfl, nofun, nofun, fun _ => ⟨rfl, rfl, rfl, rfl, rfl⟩, fun _ => ⟨rfl, rfl⟩⟩
    · exact .of_eq rfl
  | linkReset =>
    simp only [act, actLinkReset]
    split
    · exact .of_eq rfl
    · split
      · exact .of_eq rfl
      · exact .of_eq (State.linkReset_own _)
  | linkResetRelease =>
    simp only [act, actLinkResetRelease]
    split
    · split <;> exact .of_eq rfl
    · exact .of_eq rfl
  | settleEnd =>
    simp only [act, actSettleEnd]
    split
    · exact .of_eq s.settleEnd_own
    · exact .of_eq rfl
  | sleepRequestRise =>
    simp only [act, actSleepRequestRise]
    split
    · exact .of_eq rfl
    · split
      · exact .of_eq (State.enterSleepDrain_own _)
      · exact .of_eq rfl
  | sleepRequestFall =>
    simp only [act, actSleepRequestFall]
    split
    · split
      · exact .of_eq (State.endPause_own _)
      all_goals exact .of_eq rfl
    · exact .of_eq rfl
  | drainCondition =>
    simp only [act, actDrainCondition]
    split <;> exact .of_eq rfl
  | accept r =>
    simp only [act, actAccept]
    split <;> exact .of_eq rfl
  | routerTake =>
    simp only [act, actRouterTake]
    split
    · split
      · exact .of_eq (State.takeRequest_own _ _)
      · exact .of_eq rfl
    · exact .of_eq rfl
  | passSegmentPlace =>
    simp only [act, actPassSegmentPlace]
    split
    · exact .of_eq rfl
    · split
      · exact .of_eq rfl
      · split
        · split
          · next hold _ _ p _ _ _ beats _ =>
            obtain ⟨hpending, hmem, hframe, hstrap1, hstrap0⟩ := s.placeMailbox_sameBase hold p beats
            exact ⟨hpending, fun _ => hmem, hstrap1, hstrap0, nofun, fun _ => hframe, nofun, nofun⟩
          · exact .of_eq (State.pieceHandedOn_own _)
        · exact .of_eq rfl
  | straightSegmentPlace =>
    simp only [act, actStraightSegmentPlace]
    split
    · split
      · split
        · exact .of_eq (State.goOn_own _ _)
        · exact .of_eq rfl
      · exact .of_eq rfl
    all_goals exact .of_eq rfl
  | collectorInsert =>
    simp only [act, actCollectorInsert]
    split
    · split
      · exact .of_eq (State.offerInsert_own _ _ _)
      · exact .of_eq rfl
      · exact .of_eq rfl
    all_goals exact .of_eq rfl
  | translatedReadSegmentPlace =>
    simp only [act, actTranslatedReadSegmentPlace]
    split
    · split
      · exact .of_eq (State.placeRead_own _ _)
      · exact .of_eq rfl
    all_goals exact .of_eq rfl
  | burstComplete =>
    simp only [act, actBurstComplete]
    split
    · exact .of_eq rfl
    · next f _ =>
      split
      · have h : (s.completeFlight f).own = { s.own with mem := s.landed f } := State.reportCompletion_own _ _
        show OwnFrame _ _ (s.completeFlight f).own
        rw [h]
        exact ⟨rfl, fun hf => absurd rfl hf, rfl, rfl, fun _ => rfl, fun _ => rfl, fun _ => ⟨rfl, rfl, rfl, rfl, rfl⟩, fun _ => ⟨rfl, rfl⟩⟩
      · exact .of_eq rfl
  | readDataReturn beat =>
    simp only [act, actReadDataReturn]
    split
    · exact .of_eq rfl
    · split
      · exact .of_eq (State.returnBeat_own _ _ _)
      · exact .of_eq rfl
  | headFetchOffer =>
    simp only [act, actHeadFetchOffer]
    split
    · exact .of_eq rfl
    · split <;> exact .of_eq rfl
  | ageTick =>
    simp only [act, actAgeTick]
    split
    · exact .of_eq (State.collector_own (Collector.ageTick_calm s.collector).interval)
    · exact .of_eq rfl
  | blankStart =>
    simp only [act, actBlankStart]
    split
    · split
      · exact .of_eq rfl
      · exact .of_eq (State.blankStart_own _)
    · exact .of_eq rfl
  | frameStart =>
    simp only [act, actFrameStart]
    split
    · exact .of_eq rfl
    · split
      · exact .of_eq rfl
      · refine .of_frame rfl ?_
        show ∃ f, (State.frameStart _).own = _
        unfold State.frameStart
        dsimp only
        split
        · exact ⟨_, rfl⟩
        · split
          · exact ⟨_, (State.own_of_kept (State.finishSwap_kept _ _)).trans rfl⟩
          · exact ⟨_, rfl⟩
  | scanStopped =>
    simp only [act, actScanStopped]
    split
    · exact .of_frame rfl ⟨_, rfl⟩
    · exact .of_eq rfl
  | swapLimit =>
    simp only [act, actSwapLimit]
    split
    · exact .of_eq rfl
    · split
      · exact .of_eq rfl
      · exact .of_eq s.abandon_own
  | sampleTimer =>
    simp only [act, actSampleTimer]
    split
    · exact .of_tracker rfl ⟨_, rfl⟩
    · exact .of_eq rfl
  | sensorRead k a b =>
    simp only [act, actSensorRead]
    split
    · exact .of_tracker rfl (s.endRead_own _)
    · exact .of_eq rfl
  | i2cTimeout =>
    simp only [act, actI2cTimeout]
    split
    · exact .of_tracker rfl (s.endRead_own _)
    · exact .of_eq rfl
  | latchRise =>
    simp only [act, actLatchRise]
    split
    · exact .of_eq rfl
    · split
      · exact .of_eq rfl
      · exact .of_tracker rfl ⟨_, State.latchRising_own _⟩
  | latchFall =>
    simp only [act, actLatchFall]
    split
    · split
      · exact .of_eq rfl
      · exact .of_eq (State.report_own _ _)
    · exact .of_eq rfl
  | fillJobStart => exact .of_eq s.takeUpJob_own
  | load check slot offset => exact .of_eq (State.controlRecord_keeps fun u => u.takeLoad_own slot offset)
  | unload check slot => exact .of_eq (State.controlRecord_keeps fun u => u.takeUnload_own slot)
  | bind check slot plane flag =>
    exact State.controlRecord_own (.of_eq rfl) (.of_bindings rfl ((s.noteTaken 3).takeBind_own slot plane flag))
  | unbind check plane => exact State.controlRecord_own (.of_eq rfl) (.of_bindings rfl ((s.noteTaken 4).takeUnbind_own plane))
  | commit check => exact .of_eq (State.controlRecord_keeps State.takeCommit_own)
  | cancel check => exact .of_eq (State.controlRecord_keeps State.takeCancel_own)
  | fill check plane x y width height colour =>
    exact .of_eq (State.controlRecord_keeps fun u => u.takeFill_own plane x y width height colour)
  | setMap check closed partly opened =>
    exact State.controlRecord_own (.of_eq rfl) (.of_tracker rfl ⟨_, State.takeSetMap_own closed partly opened _⟩)
  | setTracker check ce cx ox oe dwell limit offset0 offset1 period =>
    exact State.controlRecord_own (.of_eq rfl)
      (.of_tracker rfl ⟨_, State.takeSetTracker_own ce cx ox oe dwell limit offset0 offset1 period _⟩)
  | setPath check highWater settle age swapLimit mask =>
    refine State.controlRecord_own (.of_eq rfl) ?_
    rw [State.takeSetPath_own]
    exact ⟨rfl, fun _ => rfl, rfl, rfl, fun _ => rfl, fun _ => rfl, nofun, fun _ => ⟨rfl, rfl⟩⟩
  | ack check mask clear => exact .of_eq (State.controlRecord_keeps fun u => u.takeAck_own mask clear)
  | reset check => exact .of_eq (State.controlRecord_keeps State.takeReset_own)
  | badCommand command check =>
    simp only [act, actBadCommand]
    split
    · exact .of_eq rfl
    · exact .of_eq (State.controlRecord_keeps fun u => u.recordResult_own _)

/-- What a command answers, of these fields, is what it leaves itself. -/
theorem exec_own {c : Instr} {s t : State} (h : exec c s = .next t) : t.own = (act c s).state.own := by
  obtain ⟨u, hu, hkept⟩ := Act.answer_kept s (act c s)
  rw [exec_eq_act, hu] at h
  cases h
  exact State.own_of_kept hkept

theorem exec_ownFrame {c : Instr} {s t : State} (h : exec c s = .next t) (hc : ∀ a b, c ≠ .powerOnReset a b) :
    OwnFrame c s.own t.own := exec_own h ▸ act_ownFrame c s hc

/-! ### The step -/

/-- Settles O1: `step` is the match on the queue. -/
theorem stepRunsTheFrontCommand : Obligations.StepRunsTheFrontCommand :=
  ⟨fun _ _ _ => rfl, fun s h => by rw [step, h]⟩

/-- What a command leaves itself has the queue as it was. -/
theorem act_pending (c : Instr) (s : State) : (act c s).state.pending = s.pending := by
  by_cases hc : ∃ a b, c = .powerOnReset a b
  · obtain ⟨a, b, rfl⟩ := hc
    rfl
  · exact (act_ownFrame c s fun a b h => hc ⟨a, b, h⟩).pending

/-- Settles O2: every answer is a next state, and neither the command nor the end of its step touches the queue. -/
theorem noCommandStops : Obligations.NoCommandStops := by
  intro c s
  obtain ⟨t, ht, hkept⟩ := Act.answer_kept s (act c s)
  exact ⟨t, (exec_eq_act c s).trans ht, (congrArg Kept.pending hkept).trans (act_pending c s)⟩

/-! ### Memory -/

theorem exec_burstComplete_mem {s t : State} (h : exec .burstComplete s = .next t) :
    t.mem = s.mem ∨ ∃ f, s.port = some f ∧ t.mem = s.landed f := by
  have hmem : t.mem = (act .burstComplete s).state.mem := congrArg Own.mem (exec_own h)
  rw [hmem]
  simp only [act, actBurstComplete]
  split
  · exact .inl rfl
  · next f hf =>
    split
    · exact .inr ⟨f, hf, congrArg Own.mem (State.reportCompletion_own { s with port := none, mem := s.landed f } f)⟩
    · exact .inl rfl

theorem exec_keeps_memory_wf {c : Instr} {s t : State} (hs : s.mem.wf = true) (h : exec c s = .next t) : t.mem.wf = true := by
  by_cases hc : ∃ a b, c = .powerOnReset a b
  · obtain ⟨a, b, rfl⟩ := hc
    cases h
    exact s.cutFlight_wf hs
  · by_cases hb : c = .burstComplete
    · subst hb
      obtain hmem | ⟨f, -, hmem⟩ := exec_burstComplete_mem h
      · rwa [hmem]
      · rw [hmem]; exact s.landed_wf f hs
    · have hmem : t.mem = s.mem := (exec_ownFrame h fun a b h => hc ⟨a, b, h⟩).mem hb
      rwa [hmem]

/-- Settles O10: memory is kept, or written by a completed or a cut burst. -/
theorem memoryStaysCanonical : Obligations.MemoryStaysCanonical := by
  intro s t hs h
  unfold step at h
  split at h
  · cases h; exact hs
  · next c rest _ =>
    exact exec_keeps_memory_wf (s := { s with pending := rest }) hs h

/-- Settles O12: of all commands only the two excepted ones write memory. -/
theorem onlyFinishedWritesReachMemory : Obligations.OnlyFinishedWritesReachMemory := by
  intro c s t h hburst hpower a
  have hmem : t.mem = s.mem := (exec_ownFrame h hpower).mem hburst
  rw [hmem]

/-! ### Tracker, frame monitor, base, settings and bindings -/

/-- Settles O13: the excepted commands are those that touch the tracker or the frame monitor. -/
theorem trackerAndMonitorHaveTheirOwnCommands : Obligations.TrackerAndMonitorHaveTheirOwnCommands := by
  refine ⟨fun c s t h hpower hrelease htimer hread htimeout hlatch hpass hmap hset => ?tracker,
    fun c s t h hpower hrelease hstart hstopped => ?frame⟩
  case tracker =>
    refine (exec_ownFrame h hpower).tracker ?_
    cases c with
    | powerOnResetRelease => exact absurd rfl hrelease
    | sampleTimer => exact absurd rfl htimer
    | sensorRead => exact absurd rfl (hread _ _ _)
    | i2cTimeout => exact absurd rfl htimeout
    | latchRise => exact absurd rfl hlatch
    | passSegmentPlace => exact absurd rfl hpass
    | setMap => exact absurd rfl (hmap _ _ _ _)
    | setTracker => exact absurd rfl (hset _ _ _ _ _ _ _ _ _ _)
    | _ => rfl
  case frame =>
    refine (exec_ownFrame h hpower).frame ?_
    cases c with
    | powerOnResetRelease => exact absurd rfl hrelease
    | frameStart => exact absurd rfl hstart
    | scanStopped => exact absurd rfl hstopped
    | _ => rfl

/-- Settles O14: the excepted commands are those that touch a setting or a binding; none but power-on reset touches the straps. -/
theorem baseSettingsAndBindingsAreKept : Obligations.BaseSettingsAndBindingsAreKept := by
  refine ⟨fun c s t h hpower => ?base, fun c s t h hpower hpass hpath => ?settings, fun c s t h hpower hpass hbind hunbind p => ?bindings⟩
  case base =>
    have hframe := exec_ownFrame h hpower
    have hstrap1 : t.front.strap1 = s.front.strap1 := hframe.strap1
    have hstrap0 : t.front.strap0 = s.front.strap0 := hframe.strap0
    simp only [State.fb, hstrap1, hstrap0]
  case settings =>
    refine (exec_ownFrame h hpower).settings ?_
    cases c with
    | passSegmentPlace => exact absurd rfl hpass
    | setPath => exact absurd rfl (hpath _ _ _ _ _ _)
    | _ => rfl
  case bindings =>
    have hkept : touchesBindings c = false := by
      cases c with
      | passSegmentPlace => exact absurd rfl hpass
      | bind => exact absurd rfl (hbind _ _ _ _)
      | unbind => exact absurd rfl (hunbind _ _)
      | _ => rfl
    obtain ⟨ha, hb⟩ := (exec_ownFrame h hpower).bindings hkept
    cases p
    · exact ha
    · exact hb

end Sys2Proof.Machine
end

section
/-! The downstream port (R150 to R153): which offers a choice point grants, and that no step leaves it IDLE while an offer stands. -/

namespace Sys2Proof.Machine

/-! ### An insert taken leaves none waiting -/

theorem State.retryInsert_of_waitingInsert_none {s : State} (h : s.waitingInsert = none) : s.retryInsert = s := by
  unfold State.waitingInsert at h
  unfold State.retryInsert
  split
  · next job hjob =>
    split
    · next i hi => simp [hjob, hi] at h
    all_goals rfl
  all_goals rfl

theorem State.takeInHand_waitingInsert (s : State) (plane : Plane) (layout : Option Layout) (steps : List LaneStep) :
    (s.takeInHand plane layout steps).waitingInsert = none := by
  induction steps generalizing s with
  | nil => rfl
  | cons x rest ih =>
    cases x with
    | orphan => exact ih _
    | padding => exact ih _
    | run v r lanes => rfl
    | turned lane => rfl

theorem State.enquire_waitingInsert (s : State) (job : ReadJob) : (s.enquire job).waitingInsert = none := by
  unfold State.enquire
  split
  · rfl
  · dsimp only
    split <;> rfl

theorem State.translatePiece_waitingInsert (s : State) (plane : Plane) (piece : Piece) (r : Option Nat) :
    (s.translatePiece plane piece r).waitingInsert = none := by
  unfold State.translatePiece
  dsimp only
  split
  · exact s.takeInHand_waitingInsert _ _ _
  · split
    · rfl
    · exact State.enquire_waitingInsert _ _

theorem State.workOn_waitingInsert {s : State} (h : s.waitingInsert = none) (hold : RouterHold) (ps : List Piece) :
    (s.workOn hold ps).waitingInsert = none := by
  induction ps generalizing s with
  | nil => exact h
  | cons p rest ih =>
    unfold State.workOn
    dsimp only
    split
    · split
      · exact ih (State.translatePiece_waitingInsert _ _ _ _)
      · exact State.translatePiece_waitingInsert _ _ _ _
    all_goals exact h

theorem State.goOn_waitingInsert (s : State) (job : WriteJob) : (s.goOn job).waitingInsert = none := by
  have h := s.takeInHand_waitingInsert job.plane job.layout job.todo
  unfold State.goOn State.handedOnIfIdle State.pieceHandedOn
  split
  · split
    · exact h
    · exact State.workOn_waitingInsert h _ _
  · exact h

/-- R80, R81: with room in the table every insert is taken. -/
theorem Collector.insert_taken {c : Collector} (h : c.tableRoom = true) (i : Insert) (id : Nat) (sleeping : Bool) :
    (c.insert i id sleeping).taken = true := by
  unfold Collector.insert
  split
  · rfl
  · rw [if_pos h]

theorem State.offerInsert_waitingInsert {s : State} (h : s.collector.tableRoom = true) (job : WriteJob) (i : Insert) :
    (s.offerInsert job i).waitingInsert = none := by
  unfold State.offerInsert
  dsimp only
  rw [if_pos (Collector.insert_taken h _ _ _)]
  exact State.goOn_waitingInsert _ _

/-- R82: an insert that is not retried has no room, or does not wait. -/
theorem State.retryInsert_of_rests {s : State} (h : s.waitingInsert = none ∨ s.collector.tableRoom = false) : s.retryInsert = s := by
  obtain hnone | hroom := h
  · exact State.retryInsert_of_waitingInsert_none hnone
  · unfold State.retryInsert
    split
    · split
      · rw [if_neg (by simp [hroom])]
      all_goals rfl
    all_goals rfl

/-- R82: what waits once retried waits for room the table does not have. -/
theorem State.retryInsert_rests (s : State) : s.retryInsert.waitingInsert = none ∨ s.retryInsert.collector.tableRoom = false := by
  match hwaits : s.waitingInsert, hroom : s.collector.tableRoom with
  | none, _ => exact .inl (by rwa [State.retryInsert_of_waitingInsert_none hwaits])
  | some _, false => exact .inr (by rwa [State.retryInsert_of_rests (.inr hroom)])
  | some i, true =>
    obtain ⟨job, hretry⟩ : ∃ job, s.retryInsert = s.offerInsert job i := by
      unfold State.waitingInsert at hwaits
      split at hwaits <;> try contradiction
      next job hjob =>
      split at hwaits <;> cases hwaits
      next hand =>
      exact ⟨job, by simp [State.retryInsert, hjob, hand, hroom]⟩
    rw [hretry]
    exact .inl (State.offerInsert_waitingInsert hroom job i)

/-! ### The choice -/

theorem pickRing_visible {visible : Source → Bool} {first r : Ring} (h : pickRing visible first = some r) : visible r.source = true := by
  unfold pickRing at h
  split at h
  · cases h; assumption
  · split at h
    · cases h; assumption
    · split at h
      · cases h; assumption
      · cases h

/-- The source picked is visible. -/
theorem State.pick_visible {s : State} {visible : Source → Bool} {x : Source} (h : s.pick visible = some x) : visible x = true := by
  unfold State.pick at h
  split at h
  · next y hy =>
    cases h
    unfold State.pickControl at hy
    split at hy <;> cases hy
    · split <;> assumption
    · assumption
    · assumption
  · split at h
    · cases h; assumption
    · obtain ⟨r, hr, rfl⟩ := Option.map_eq_some_iff.1 h
      exact pickRing_visible hr

theorem pickRing_eq_none {visible : Source → Bool} {first : Ring} (h : pickRing visible first = none) (r : Ring) :
    visible r.source = false := by
  unfold pickRing at h
  split at h
  · cases h
  · split at h
    · cases h
    · split at h
      · cases h
      · cases first <;> cases r <;> simp_all [Ring.next]

/-- Nothing is picked where nothing is visible, and only there. -/
theorem State.pick_eq_none_iff (s : State) (visible : Source → Bool) : s.pick visible = none ↔ ∀ x, visible x = false := by
  constructor
  · intro h x
    unfold State.pick at h
    split at h
    · cases h
    · next hcontrol =>
      split at h
      · cases h
      · next hpriority =>
        have hring := pickRing_eq_none (Option.map_eq_none_iff.1 h)
        unfold State.pickControl at hcontrol
        split at hcontrol <;> try contradiction
        cases x with
        | fetch => assumption
        | record => assumption
        | priority => exact Bool.eq_false_iff.2 hpriority
        | path => exact hring .path
        | ordinary => exact hring .ordinary
        | fill => exact hring .fill
  · intro h
    match hx : s.pick visible with
    | none => rfl
    | some x => exact absurd (State.pick_visible hx) (by simp [h x])

/-! ### The grant -/

/-- R150: the grant of a standing offer flies. -/
theorem State.grant_port_isSome {s : State} {x : Source} (h : s.stands x = true) : (s.grant x).port.isSome = true := by
  cases x with
  | fetch =>
    simp only [State.stands, State.fetchStands] at h
    simp only [State.grant, State.grantFetch]
    split
    · next hl => simp [hl] at h
    · rfl
  | record => rfl
  | priority =>
    simp only [State.grant, State.grantPriority]
    split
    · next hq => simp [State.stands, hq] at h
    · rfl
  | path =>
    simp only [State.grant, State.grantPath]
    split
    · next hq => simp [State.stands, hq] at h
    · rfl
  | ordinary =>
    simp only [State.grant, State.grantOrdinary]
    split
    · next hq => simp [State.stands, hq] at h
    · rfl
  | fill =>
    simp only [State.stands, State.fillStands] at h
    simp only [State.grant, State.grantFill]
    split
    · next hb => simp [hb] at h
    · rfl

theorem State.choicePoint_of_port_isSome {s : State} (h : s.port.isSome = true) : s.choicePoint = s := by
  unfold State.choicePoint
  split
  · rfl
  · next hp => simp [hp] at h

theorem State.choicePoint_of_port_none {s : State} (h : s.port = none) : s.choicePoint = s.grantPick (s.pick s.stands) := by
  rw [State.choicePoint, h]

/-- R153: where the port stays IDLE no offer stands, and nothing was done. -/
theorem State.choicePoint_idle {s : State} (h : s.choicePoint.port = none) : s.choicePoint = s ∧ s.neverIdle := by
  match hport : s.port with
  | some f => rw [State.choicePoint_of_port_isSome (by rw [hport]; rfl)] at h; simp [hport] at h
  | none =>
    rw [State.choicePoint_of_port_none hport] at h ⊢
    match hx : s.pick s.stands with
    | none => exact ⟨rfl, fun _ => (s.pick_eq_none_iff _).1 hx⟩
    | some x =>
      rw [hx] at h
      exact absurd (State.grant_port_isSome (State.pick_visible hx)) (by simp [show (s.grant x).port = none from h])

/-! ### The end of a step -/

theorem State.neverIdle_of_port_isSome {s : State} (h : s.port.isSome = true) : s.neverIdle := fun hnone => by simp [hnone] at h

/-- The insert a grant makes room for is the last thing of a step; where nothing was granted none is taken. -/
theorem State.retryInsert_neverIdle {s : State}
    (h : s.port = none → (s.waitingInsert = none ∨ s.collector.tableRoom = false) ∧ s.neverIdle) : s.retryInsert.neverIdle := by
  intro hport
  obtain ⟨hrests, hidle⟩ := h (by rwa [State.retryInsert_port] at hport)
  rw [State.retryInsert_of_rests hrests] at hport ⊢
  exact hidle hport

theorem State.conclude_neverIdle (s : State) : s.conclude.neverIdle := by
  refine State.retryInsert_neverIdle fun hport => ?_
  obtain ⟨hsame, hidle⟩ := State.choicePoint_idle hport
  rw [hsame]
  exact ⟨State.retryInsert_rests _, hidle⟩

theorem State.seenAtCompletion_stands {before s : State} {x : Source} (h : State.seenAtCompletion before s x = true) :
    s.stands x = true := by
  simp only [State.seenAtCompletion, Bool.and_eq_true] at h
  exact h.1.1

/-- R153: the same of the choice point of a completion, which also ticks the free value. -/
theorem State.completionChoice_idle {before s : State} (h : (State.completionChoice before s).port = none) :
    State.completionChoice before s = s.tickFree ∧ s.neverIdle := by
  unfold State.completionChoice at h ⊢
  split at h
  · next x hx =>
    have hsome := State.grant_port_isSome (State.seenAtCompletion_stands (State.pick_visible hx))
    exact absurd hsome (by simp [show (s.grant x).port = none from h])
  · obtain ⟨hsame, hidle⟩ := State.choicePoint_idle (s := s) h
    rw [hsame]
    exact ⟨rfl, hidle⟩

theorem State.concludeCompletion_neverIdle (before s : State) : (State.concludeCompletion before s).neverIdle := by
  obtain ⟨b, n, horder⟩ := State.orderOffers_eq before (State.completionChoice before (State.settleSwaps 2 s).retryInsert).retryInsert
  unfold State.concludeCompletion
  rw [horder]
  refine State.retryInsert_neverIdle fun hport => ?_
  obtain ⟨hsame, hidle⟩ := State.completionChoice_idle hport
  rw [hsame]
  exact ⟨State.retryInsert_rests _, hidle⟩

/-! ### Steps that end as they are -/

/-- What the offers and the port are of. -/
theorem State.neverIdle_of_eq {s t : State} (h : s.neverIdle) (hport : t.port = s.port) (hload : t.layouts = s.layouts)
    (hwrite : t.status = s.status) (hcollector : t.collector = s.collector) (hout : t.outQueue = s.outQueue) (hfill : t.fill = s.fill) :
    t.neverIdle := by
  intro hnone x
  have hx := h (hport ▸ hnone) x
  cases x <;>
    simpa only [State.stands, State.fetchStands, State.recordStands, State.fillStands, hload, hwrite, hcollector, hout, hfill] using hx

theorem State.powerOn_neverIdle (strap1 strap0 : Bool) (s : State) : (s.powerOn strap1 strap0).neverIdle := by
  intro _ x
  cases x <;> rfl

theorem State.controlRecord_still {s u : State} {command check : Word} {act : State → State}
    (h : s.controlRecord command check act = .still u) : u = s := by
  unfold State.controlRecord at h
  split at h <;> cases h
  rfl

/-- A command whose step ends as it is does nothing, or moves an input line or the tracker; power-on reset leaves no offer. -/
theorem act_still_neverIdle {c : Instr} {s u : State} (hs : s.neverIdle) (h : act c s = .still u) : u.neverIdle := by
  cases c with
  | powerOnReset a b => cases h; exact s.powerOn_neverIdle a b
  | load check slot offset => exact State.controlRecord_still h ▸ hs
  | unload check slot => exact State.controlRecord_still h ▸ hs
  | bind check slot plane flag => exact State.controlRecord_still h ▸ hs
  | unbind check plane => exact State.controlRecord_still h ▸ hs
  | commit check => exact State.controlRecord_still h ▸ hs
  | cancel check => exact State.controlRecord_still h ▸ hs
  | fill check plane x y width height colour => exact State.controlRecord_still h ▸ hs
  | setMap check closed partly opened => exact State.controlRecord_still h ▸ hs
  | setTracker check ce cx ox oe dwell limit offset0 offset1 period => exact State.controlRecord_still h ▸ hs
  | setPath check highWater settle age swapLimit mask => exact State.controlRecord_still h ▸ hs
  | ack check mask clear => exact State.controlRecord_still h ▸ hs
  | reset check => exact State.controlRecord_still h ▸ hs
  | badCommand command check =>
    simp only [act, actBadCommand] at h
    split at h
    · cases h; exact hs
    · exact State.controlRecord_still h ▸ hs
  | _ =>
    simp only [act, actPowerOnResetRelease, actLinkReset, actLinkResetRelease, actSettleEnd, actSleepRequestRise, actSleepRequestFall,
      actDrainCondition, actAccept, actRouterTake, actPassSegmentPlace, actStraightSegmentPlace, actCollectorInsert,
      actTranslatedReadSegmentPlace, actBurstComplete, actReadDataReturn, actHeadFetchOffer, actAgeTick, actBlankStart, actFrameStart,
      actScanStopped, actSwapLimit, actSampleTimer, actSensorRead, actI2cTimeout, actLatchRise, actLatchFall, actFillJobStart] at h
    repeat' split at h
    all_goals cases h
    all_goals exact State.neverIdle_of_eq hs rfl rfl rfl rfl rfl rfl

/-- Settles O8: the end of a step looks for an offer, and a command whose step ends as it is makes none. -/
theorem portIsNeverIdleWhileAnOfferStands : Obligations.PortIsNeverIdleWhileAnOfferStands := by
  intro s t hs h
  unfold step at h
  split at h
  · cases h; exact hs
  · next c rest _ =>
    have hs' : ({ s with pending := rest } : State).neverIdle := hs
    rw [exec_eq_act] at h
    match hact : act c { s with pending := rest } with
    | .still u => rw [hact] at h; cases h; exact act_still_neverIdle hs' hact
    | .concluded u => rw [hact] at h; cases h; exact u.conclude_neverIdle
    | .completed u => rw [hact] at h; cases h; exact State.concludeCompletion_neverIdle _ u

end Sys2Proof.Machine
end

section
/-! The select line and the end of a step (R99, R105 to R107). -/

namespace Sys2Proof.Machine

/-! ### What a report leaves alone -/

@[simp] theorem State.report_planes (s : State) (f : EventFlag) : (s.report f).planes = s.planes := by
  obtain ⟨fl, w, b, h⟩ := s.report_eq f
  rw [h]

@[simp] theorem State.report_fill (s : State) (f : EventFlag) : (s.report f).fill = s.fill := by
  obtain ⟨fl, w, b, h⟩ := s.report_eq f
  rw [h]

@[simp] theorem State.report_layouts (s : State) (f : EventFlag) : (s.report f).layouts = s.layouts := by
  obtain ⟨fl, w, b, h⟩ := s.report_eq f
  rw [h]

@[simp] theorem State.report_collector (s : State) (f : EventFlag) : (s.report f).collector = s.collector := by
  obtain ⟨fl, w, b, h⟩ := s.report_eq f
  rw [h]

@[simp] theorem State.report_outQueue (s : State) (f : EventFlag) : (s.report f).outQueue = s.outQueue := by
  obtain ⟨fl, w, b, h⟩ := s.report_eq f
  rw [h]

@[simp] theorem State.report_tracker (s : State) (f : EventFlag) : (s.report f).tracker = s.tracker :=
  congrArg Own.tracker (s.report_own f)

@[simp] theorem State.report_frame (s : State) (f : EventFlag) : (s.report f).frame = s.frame := congrArg Own.frame (s.report_own f)

/-! ### The swap -/

theorem State.drainComplete_iff {s : State} {r : ArmRecord} :
    s.drainComplete r = true ↔
      r.collectorWaiting = false ∧ r.pathWaiting = [] ∧ (s.planes.entry r.target).backgroundPending = false := by
  simp [State.drainComplete, and_assoc]

theorem State.swapDue_eq_some_iff {s : State} {r : ArmRecord} :
    s.swapDue = some r ↔
      s.planes.switch = .armed r ∧ s.frame.scanStopped = true ∧
        (r.selectMoved = true ∨
          (r.collectorWaiting = false ∧ r.pathWaiting = [] ∧ (s.planes.entry r.target).backgroundPending = false)) := by
  unfold State.swapDue
  split
  · next h => simp [h]
  · next q h =>
    rw [h, Switch.armed.injEq]
    constructor
    · intro hdue
      split at hdue
      · next hcond =>
        cases hdue
        simpa only [Bool.and_eq_true, Bool.or_eq_true, State.drainComplete_iff, true_and] using hcond
      · cases hdue
    · rintro ⟨rfl, hcond⟩
      rw [if_pos (by simpa only [Bool.and_eq_true, Bool.or_eq_true, State.drainComplete_iff] using hcond)]

@[simp] theorem State.swapDone_planes (s : State) (r : ArmRecord) :
    (s.swapDone r).planes = { s.planes with scanned := r.target, select := r.target, switch := .steady } := State.report_planes _ _

@[simp] theorem State.requestGuard_planes (s : State) (p : Plane) : (s.requestGuard p).planes = s.planes := by
  unfold State.requestGuard
  split
  · rfl
  · split
    · exact s.report_planes _
    · rfl

@[simp] theorem State.unserved_planes (s : State) (p : Posture) : (s.unserved p).planes = s.planes := by
  unfold State.unserved State.guardFor
  split
  · exact s.report_planes _
  · split
    · exact s.report_planes _
    · split
      · simp
      · exact s.report_planes _

/-- R103, R112: a re-evaluation of a STEADY switch leaves it so, or arms it towards the IDLE plane. -/
theorem State.reevaluate_of_steady {s : State} (h : s.planes.switch = .steady) {q : ArmRecord}
    (hq : s.reevaluate.planes.switch = .armed q) : q.selectMoved = false ∧ q.target = s.planes.idle := by
  unfold State.reevaluate at hq
  split at hq
  · rw [h] at hq; cases hq
  · split at hq
    · rw [h] at hq; cases hq
    · cases hq; exact ⟨rfl, rfl⟩
    · rw [State.unserved_planes, h] at hq; cases hq
    · next harmed => rw [h] at harmed; cases harmed

/-- A swap that a swap done arms is armed back, with its select not yet moved. -/
theorem State.armed_of_finishSwap {s : State} {r q : ArmRecord} (h : (s.finishSwap r).planes.switch = .armed q) :
    q.selectMoved = false ∧ q.target = r.target.other := by
  obtain ⟨hmoved, htarget⟩ := State.reevaluate_of_steady (s := s.swapDone r) (by rw [State.swapDone_planes]) h
  exact ⟨hmoved, by rw [htarget, State.swapDone_planes]; rfl⟩

/-! ### The select line -/

/-- R99: moves that keep the select line keep the switch's law with it. -/
theorem Reaches.select {s t : State} (h : Reaches s t) (hs : s.switchLaw) : t.switchLaw ∧ t.planes.select = s.planes.select := by
  induction h with
  | refl => exact ⟨hs, rfl⟩
  | tail _ hm ih => exact ⟨hm.1.keeps_switchLaw _ _ ih.1, (hm.2 ih.1).trans ih.2⟩

/-- R106: a swap done has the select line at its target. -/
theorem State.finishSwap_select (s : State) (r : ArmRecord) :
    (s.finishSwap r).switchLaw ∧ (s.finishSwap r).planes.select = r.target := by
  have hdone : (s.swapDone r).switchLaw ∧ (s.swapDone r).planes.select = r.target := by
    simp [State.switchLaw]
  obtain ⟨hlaw, hselect⟩ := (State.reevaluate_reaches (s.swapDone r)).select hdone.1
  exact ⟨hlaw, hselect.trans hdone.2⟩

/-- Nothing after the swaps then due moves the select line. -/
theorem State.endOfStep_select {before u t : State} (hu : u.switchLaw) (h : t = u.conclude ∨ t = State.concludeCompletion before u) :
    t.planes.select = (State.settleSwaps 2 u).planes.select := by
  have hlaw : (State.settleSwaps 2 u).switchLaw := (State.settleSwaps_leads 2 u).keeps Move.keeps_switchLaw hu
  obtain rfl | rfl := h
  · exact ((((State.retryInsert_reaches _).trans (State.choicePoint_reaches _)).trans (State.retryInsert_reaches _)).select hlaw).2
  · exact ((((State.retryInsert_reaches _).trans (State.completionChoice_reaches before _)).trans
      ((State.retryInsert_reaches _).trans (.same (State.orderOffers_ruled before _)))).select hlaw).2

theorem State.settleSwaps_succ_none {s : State} (h : s.swapDue = none) (n : Nat) : State.settleSwaps (n + 1) s = s := by
  rw [State.settleSwaps, h]

theorem State.settleSwaps_succ_some {s : State} {r : ArmRecord} (h : s.swapDue = some r) (n : Nat) :
    State.settleSwaps (n + 1) s = State.settleSwaps n (s.finishSwap r) := by
  rw [State.settleSwaps, h]

/-- The swaps of one step: the select line ends where the one swap due has its target, or back where the swap that it arms has. -/
theorem State.settleSwaps_select {u : State} (hlaw : u.switchLaw) (h : (State.settleSwaps 2 u).planes.select ≠ u.planes.select) :
    ∃ r, u.swapDue = some r ∧
      ((r.selectMoved = false ∧ (State.settleSwaps 2 u).planes.select = r.target) ∨
        (r.selectMoved = true ∧ ∃ q, (u.finishSwap r).swapDue = some q ∧ (State.settleSwaps 2 u).planes.select = q.target)) := by
  match hdue : u.swapDue with
  | none => rw [State.settleSwaps_succ_none hdue] at h; exact absurd rfl h
  | some r =>
    refine ⟨r, rfl, ?_⟩
    obtain ⟨harmed, -, -⟩ := State.swapDue_eq_some_iff.1 hdue
    rw [State.settleSwaps_succ_some hdue] at h ⊢
    simp only [State.switchLaw, harmed] at hlaw
    obtain ⟨htarget, -, hselect⟩ := hlaw
    match hagain : (u.finishSwap r).swapDue, hmoved : r.selectMoved with
    | none, false => exact .inl ⟨rfl, by rw [State.settleSwaps_succ_none hagain, (u.finishSwap_select r).2]⟩
    | none, true =>
      rw [State.settleSwaps_succ_none hagain, (u.finishSwap_select r).2, hselect, hmoved] at h
      exact absurd rfl h
    | some q, true =>
      exact .inr ⟨rfl, q, rfl, by rw [State.settleSwaps_succ_some hagain]; exact ((u.finishSwap r).finishSwap_select q).2⟩
    | some q, false =>
      obtain ⟨-, hback⟩ := State.armed_of_finishSwap (State.swapDue_eq_some_iff.1 hagain).1
      rw [State.settleSwaps_succ_some hagain] at h
      have hq : (State.settleSwaps 0 ((u.finishSwap r).finishSwap q)).planes.select = q.target :=
        ((u.finishSwap r).finishSwap_select q).2
      rw [hq, hback, htarget, hselect, hmoved] at h
      exact absurd (Plane.other_other _) h

/-- R105: a blank start moves the select line for an armed swap whose drain is complete. -/
theorem State.blankStart_select (s : State) :
    s.blankStart.planes.select = s.planes.select ∨
      ∃ r, s.planes.switch = .armed r ∧ r.selectMoved = false ∧ s.drainComplete r = true ∧ s.blankStart.planes.select = r.target := by
  unfold State.blankStart
  split
  · exact .inl rfl
  · next r hr =>
    split
    · exact .inl rfl
    · next hmoved =>
      split
      · next hdrain => exact .inr ⟨r, hr, by simpa using hmoved, hdrain, rfl⟩
      · exact .inl (congrArg Planes.select (s.report_planes _))

theorem act_select {c : Instr} {s : State} (hs : s.switchLaw) (hpower : ∀ a b, c ≠ .powerOnReset a b) :
    (act c s).state.planes.select = s.planes.select ∨
      (c = .blankStart ∧ ∃ r, s.planes.switch = .armed r ∧ r.selectMoved = false ∧ s.drainComplete r = true ∧
        (act c s).state.planes.select = r.target) := by
  by_cases hblank : c = .blankStart
  · subst hblank
    simp only [act, actBlankStart]
    split
    · split
      · exact .inl rfl
      · obtain hsame | hmoves := State.blankStart_select { s with pins := { s.pins with frameSync := false } }
        · exact .inl hsame
        · exact .inr ⟨trivial, hmoves⟩
    · exact .inl rfl
  · exact .inl ((act_reaches c s hpower hblank).select hs).2

/-- What a command answers is what it does itself, or what ends its step makes of that. -/
theorem exec_eq_or {c : Instr} {s t : State} (h : exec c s = .next t) :
    t = (act c s).state ∨ t = (act c s).state.conclude ∨ t = State.concludeCompletion s (act c s).state := by
  rw [exec_eq_act] at h
  cases hact : act c s <;> rw [hact] at h <;> cases h
  · exact .inl rfl
  · exact .inr (.inl rfl)
  · exact .inr (.inr rfl)

theorem State.endOfStep_frame {before u t : State} (h : t = u.conclude ∨ t = State.concludeCompletion before u) :
    t.frame = u.frame := by
  obtain rfl | rfl := h
  · exact congrArg Kept.frame u.conclude_kept
  · exact congrArg Kept.frame (State.concludeCompletion_kept before u)

/-- R107: what ends a step moves the select line only while scan is stopped. -/
theorem State.endOfStep_select_moves {before u t : State} (hu : u.switchLaw)
    (h : t = u.conclude ∨ t = State.concludeCompletion before u) (hne : t.planes.select ≠ u.planes.select) :
    u.frame.scanStopped = true ∧ t.frame.scanStopped = true := by
  rw [State.endOfStep_select hu h] at hne
  obtain ⟨r, hdue, -⟩ := State.settleSwaps_select hu hne
  obtain ⟨-, hstopped, -⟩ := State.swapDue_eq_some_iff.1 hdue
  exact ⟨hstopped, by rw [State.endOfStep_frame h]; exact hstopped⟩

/-- Settles O15: all but a blank start are moves that keep the select line; at the end of a step it moves with a swap due. -/
theorem selectMovesOnlyForACompleteDrain : Obligations.SelectMovesOnlyForACompleteDrain := by
  refine ⟨exec_eq_act, fun c s hs hpower => ?command, fun before u t hu h hne => ?endOfStep, fun c s t hs h hpower hne => ?step⟩
  case command =>
    obtain hsame | ⟨rfl, r, harmed, hmoved, hdrain, hselect⟩ := act_select hs.switch hpower
    · exact .inl hsame
    · obtain ⟨hcollector, hpath, hpending⟩ := State.drainComplete_iff.1 hdrain
      exact .inr ⟨rfl, r, harmed, hmoved, hcollector, hpath, hpending, hselect⟩
  case endOfStep =>
    obtain ⟨hstopped, hstopped'⟩ := State.endOfStep_select_moves hu h hne
    rw [State.endOfStep_select hu h] at hne ⊢
    obtain ⟨r, hdue, hswap⟩ := State.settleSwaps_select hu hne
    obtain ⟨harmed, -, hdrain⟩ := State.swapDue_eq_some_iff.1 hdue
    refine ⟨hstopped, hstopped', r, harmed, hdue, ?_⟩
    obtain ⟨hmoved, hselect⟩ | ⟨hmoved, q, hagain, hselect⟩ := hswap
    · exact .inl ⟨⟨harmed, hmoved, hdrain.resolve_left (by simp [hmoved])⟩, hselect⟩
    · obtain ⟨harmed', -, hdrain'⟩ := State.swapDue_eq_some_iff.1 hagain
      obtain ⟨hmoved', -⟩ := State.armed_of_finishSwap harmed'
      exact .inr ⟨hmoved, q, ⟨harmed', hmoved', hdrain'.resolve_left (by simp [hmoved'])⟩, hselect⟩
  case step =>
    obtain hsame | ⟨hblank, -⟩ := act_select hs.switch hpower
    · refine .inr ?_
      have hlaw : (act c s).state.switchLaw := (act_leads c s).keeps Move.keeps_switchLaw hs.switch
      rw [← hsame] at hne
      obtain rfl | hend := exec_eq_or h
      · exact absurd rfl hne
      · exact (State.endOfStep_select_moves hlaw hend hne).2
    · exact .inl hblank

/-! ### The end of a step -/

/-- Settles O16: the end of a step keeps what `State.kept` holds. -/
theorem endOfStep : Obligations.EndOfStep := by
  have hkeeps {s t : State} (h : t.kept = s.kept) :
      t.pins = s.pins ∧ t.front = s.front ∧ t.inbound = s.inbound ∧ t.mailboxOutstanding = s.mailboxOutstanding ∧
        t.layouts.slots = s.layouts.slots ∧ t.frame = s.frame ∧ t.tracker = s.tracker ∧ t.decoder = s.decoder ∧
        t.status.mask = s.status.mask ∧ t.mem = s.mem ∧ t.pending = s.pending ∧ t.planes.swapLimit = s.planes.swapLimit ∧
        t.collector.ageInterval = s.collector.ageInterval ∧ t.collector.ageTimer = s.collector.ageTimer ∧
        ∀ p, (t.planes.entry p).binding = (s.planes.entry p).binding := by
    have hown := State.own_of_kept h
    simp only [State.kept, Kept.mk.injEq] at h
    obtain ⟨hpins, hfront, hinbound, hmailbox, hslots, -, -, -, hlimit, hage, htimer, hframe, htracker,
      hdecoder, hmask, hmem, hpending⟩ := h
    exact ⟨hpins, hfront, hinbound, hmailbox, hslots, hframe, htracker, hdecoder, hmask, hmem, hpending, hlimit, hage, htimer,
      State.own_binding hown⟩
  refine ⟨fun s => hkeeps s.conclude_kept, fun before s => hkeeps (State.concludeCompletion_kept before s),
    fun s hport hdue hwaits => ?_, fun _ => rfl,
    fun n s => ⟨rfl, fun h => State.settleSwaps_succ_none h n, fun r h => State.settleSwaps_succ_some h n⟩,
    fun _ _ => State.swapDue_eq_some_iff, fun _ _ => rfl⟩
  have hretry := State.retryInsert_of_waitingInsert_none hwaits
  rw [State.conclude, State.settleSwaps_succ_none hdue, hretry, State.choicePoint_of_port_isSome hport, hretry]

end Sys2Proof.Machine
end

section
/-! Both resets (R15 to R17, R114, R115, R148, R158, R166): an emptied link side, and what ends the step that empties it. -/

namespace Sys2Proof.Machine

/-! ### How a step answers -/

theorem exec_of_concluded {c : Instr} {s u : State} (h : act c s = .concluded u) : exec c s = .next u.conclude := by
  rw [exec_eq_act, h]; rfl

theorem exec_of_completed {c : Instr} {s u : State} (h : act c s = .completed u) :
    exec c s = .next (State.concludeCompletion s u) := by
  rw [exec_eq_act, h]; rfl

theorem exec_of_still {c : Instr} {s u : State} (h : act c s = .still u) : exec c s = .next u := by
  rw [exec_eq_act, h]; rfl

/-! ### The end of a step with no swap due -/

theorem State.conclude_of_no_swap {s : State} (h : s.swapDue = none) : s.conclude = s.retryInsert.choicePoint.retryInsert := by
  rw [State.conclude, State.settleSwaps_succ_none h]

theorem State.choicePoint_waitingInsert (s : State) : s.choicePoint.waitingInsert = s.waitingInsert := by
  have h : s.choicePoint.translator = s.translator := congrArg OffGrant.translator s.choicePoint_offGrant
  unfold State.waitingInsert
  rw [h]

/-- Nothing waits and no swap is due: the end of a step is a choice point. -/
theorem State.conclude_of_rest {s : State} (hswap : s.swapDue = none) (hwaits : s.waitingInsert = none) : s.conclude = s.choicePoint := by
  rw [State.conclude_of_no_swap hswap, State.retryInsert_of_waitingInsert_none hwaits,
    State.retryInsert_of_waitingInsert_none (by rwa [State.choicePoint_waitingInsert])]

theorem State.choicePoint_planes (s : State) : s.choicePoint.planes = s.planes := congrArg OffGrant.planes s.choicePoint_offGrant

theorem State.conclude_planes {s : State} (h : s.swapDue = none) : s.conclude.planes = s.planes := by
  rw [State.conclude_of_no_swap h, State.retryInsert_planes, State.choicePoint_planes, State.retryInsert_planes]

theorem State.swapDue_of_steady {s : State} (h : s.planes.switch = .steady) : s.swapDue = none := by
  simp [State.swapDue, h]

theorem State.swapDue_of_scanning {s : State} (h : s.frame.scanStopped = false) : s.swapDue = none := by
  unfold State.swapDue
  split
  · rfl
  · rw [h]; rfl

/-- What makes a swap due is of the planes and the frame monitor. -/
theorem State.swapDue_congr {s t : State} (hplanes : t.planes = s.planes) (hframe : t.frame = s.frame) : t.swapDue = s.swapDue := by
  have hdrain (r : ArmRecord) : t.drainComplete r = s.drainComplete r := by simp only [State.drainComplete, hplanes]
  simp only [State.swapDue, hplanes, hframe, hdrain]

/-! ### The switch and the swap -/

/-- Re-evaluation changes of the planes the switch alone. -/
theorem State.reevaluate_planes (s : State) : ∃ w, s.reevaluate.planes = { s.planes with switch := w } := by
  unfold State.reevaluate
  split
  · exact ⟨_, rfl⟩
  · split
    · exact ⟨_, rfl⟩
    · exact ⟨_, rfl⟩
    · exact ⟨_, s.unserved_planes _⟩
    · split
      · exact ⟨_, rfl⟩
      · exact ⟨_, rfl⟩
      · exact ⟨_, rfl⟩
      · exact ⟨_, rfl⟩
      · exact ⟨_, s.withdraw.unserved_planes _⟩
      · exact ⟨_, s.unserved_planes _⟩

theorem State.finishSwap_planes (s : State) (r : ArmRecord) :
    ∃ w, (s.finishSwap r).planes = { s.planes with scanned := r.target, select := r.target, switch := w } := by
  obtain ⟨w, h⟩ := (s.swapDone r).reevaluate_planes
  exact ⟨w, by rw [State.finishSwap, h, State.swapDone_planes]⟩

theorem State.reevaluate_of_unknown {s : State} (h : s.tracker.settled = none) : s.reevaluate = s := by
  rw [State.reevaluate, h]

theorem State.resetSwitch_of_steady {s : State} (h : s.planes.switch = .steady) : s.resetSwitch = (s, false) := by
  rw [State.resetSwitch, h]

theorem State.resetSwitch_of_unmoved {s : State} {r : ArmRecord} (h : s.planes.switch = .armed r) (hmoved : r.selectMoved = false) :
    s.resetSwitch = (s.withdraw, false) := by
  rw [State.resetSwitch, h]
  simp [hmoved]

theorem State.resetSwitch_of_moved {s : State} {r : ArmRecord} (h : s.planes.switch = .armed r) (hmoved : r.selectMoved = true) :
    s.resetSwitch = (s.swapDone r, true) := by
  rw [State.resetSwitch, h]
  simp [hmoved]

/-! ### The end and the abort of a load -/

theorem State.endLoad_eq (s : State) (x : Slot) (i : Fin 8) (r : Result) :
    ∃ fl w b, s.endLoad x i r =
      { s with
        layouts := { slots := s.layouts.slots.set i x, load := none }
        decoder := { s.decoder with busy := false, lastResult := r }
        status := { s.status with flags := fl, write := w }
        fetchFirst := b } := by
  let ended : State :=
    { s with
      layouts := { slots := s.layouts.slots.set i x, load := none }
      decoder := { s.decoder with busy := false, lastResult := r } }
  obtain ⟨fl, w, b, h⟩ := ended.recordCause.report_eq .loadDone
  obtain ⟨w', b', h'⟩ := ended.recordCause_eq
  refine ⟨fl, w, b, (show s.endLoad x i r = ended.recordCause.report .loadDone from rfl).trans ?_⟩
  rw [h, h']

theorem State.endLoad_causeTold (s : State) (x : Slot) (i : Fin 8) (r : Result) : CauseTold s (s.endLoad x i r) := by
  let ended : State :=
    { s with
      layouts := { slots := s.layouts.slots.set i x, load := none }
      decoder := { s.decoder with busy := false, lastResult := r } }
  have hended : CauseTold s ended := .of_eq rfl
  exact (hended.trans ended.recordCause_causeTold).trans (ended.recordCause.report_causeTold .loadDone)

/-- The slots with the loading one restored. -/
def State.abortedSlots (s : State) : Vector Slot 8 :=
  match s.layouts.load with
  | none => s.layouts.slots
  | some l => s.layouts.slots.set l.slot (restoredSlot s.layouts.slots[l.slot])

theorem State.abortedSlots_get (s : State) (i : Fin 8) :
    s.abortedSlots[i] = if s.loadSlot = some i then restoredSlot s.layouts.slots[i] else s.layouts.slots[i] := by
  match h : s.layouts.load with
  | none => simp [State.abortedSlots, State.loadSlot, h]
  | some l =>
    simp only [State.abortedSlots, State.loadSlot, h, slots_set_get, Option.some.injEq]
    split
    · next hi => subst hi; rfl
    · rfl

/-- What the record of the last result says after a reset. -/
def State.abortedResult (s : State) : Result := if s.layouts.load.isSome then .aborted else s.decoder.lastResult

theorem State.abortLoad_eq (s : State) :
    ∃ fl w b busy, s.abortLoad =
      { s with
        layouts := { slots := s.abortedSlots, load := none }
        decoder := { s.decoder with busy := busy, lastResult := s.abortedResult }
        status := { s.status with flags := fl, write := w }
        fetchFirst := b } := by
  unfold State.abortLoad State.abortedSlots State.abortedResult
  split
  · next h =>
    refine ⟨s.status.flags, s.status.write, s.fetchFirst, s.decoder.busy, ?_⟩
    rw [h]
    show s = { s with layouts := { s.layouts with load := none } }
    rw [← h]
  · next l h =>
    obtain ⟨fl, w, b, hend⟩ := s.endLoad_eq (restoredSlot s.layouts.slots[l.slot]) l.slot .aborted
    refine ⟨fl, w, b, false, ?_⟩
    rw [hend, h]
    rfl

theorem State.abortLoad_causeTold (s : State) : CauseTold s s.abortLoad := by
  unfold State.abortLoad
  split
  · exact .refl s
  · exact s.endLoad_causeTold _ _ _

/-! ### An emptied link side -/

/-- A link side with nothing to go on with: what a reset leaves. -/
structure State.Hushed (s : State) : Prop where
  translator : s.translator = .idle
  outQueue : s.outQueue = []
  collector : s.collector = s.collector.clear s.collector.ageTimer
  load : s.layouts.load = none
  burst : ∀ b, s.fill.burst = some b → b.granted = true
  port : ∀ f p, s.port = some f → f.flushOf p = []

theorem Flight.unwanted_flushOf (f : Flight) (p : Plane) : f.unwanted.flushOf p = [] := by
  obtain ⟨origin, addr, payload, moved, wanted⟩ := f
  cases origin <;> rfl

theorem Collector.clear_drain {c : Collector} (h : c = c.clear c.ageTimer) (p : Plane) (commit : Nat) : c.drain p commit [] = c := by
  rw [h]
  rfl

theorem State.Hushed.of_beside {s t : State} (hs : s.Hushed) (hbeside : t.beside = s.beside) (hcollector : t.collector = s.collector) :
    t.Hushed := by
  have htranslator : t.translator = s.translator := congrArg Beside.translator hbeside
  have hout : t.outQueue = s.outQueue := congrArg Beside.outQueue hbeside
  have hlayouts : t.layouts = s.layouts := congrArg Beside.layouts hbeside
  have hburst : t.fill.burst = s.fill.burst := congrArg Beside.burst hbeside
  have hport : t.port = s.port := congrArg Beside.port hbeside
  exact ⟨htranslator ▸ hs.translator, hout ▸ hs.outQueue, hcollector ▸ hs.collector, hlayouts ▸ hs.load, hburst ▸ hs.burst,
    hport ▸ hs.port⟩

/-- R104: a drain snapshot of an empty collector is complete at once. -/
theorem State.Hushed.arm_collector {s : State} (hs : s.Hushed) (c : ArmCause) : (s.arm c).collector = s.collector := by
  have hflying : s.flying (Flight.flushOf s.planes.idle) = [] := by
    unfold State.flying
    split
    · rfl
    · next f hf => exact hs.port f _ hf
  show s.collector.drain _ _ _ = s.collector
  rw [hflying]
  exact Collector.clear_drain hs.collector _ _

theorem State.unserved_collector (s : State) (p : Posture) : (s.unserved p).collector = s.collector := by
  unfold State.unserved State.guardFor State.requestGuard
  split
  · simp
  · split
    · simp
    · split
      · split
        · simp
        · split <;> simp
      · simp

theorem State.Hushed.reevaluate_collector {s : State} (hs : s.Hushed) : s.reevaluate.collector = s.collector := by
  unfold State.reevaluate
  split
  · rfl
  · split
    · rfl
    · exact hs.arm_collector _
    · exact s.unserved_collector _
    · split
      · rfl
      · rfl
      · rfl
      · rfl
      · exact s.withdraw.unserved_collector _
      · exact s.unserved_collector _

theorem State.Hushed.reevaluate {s : State} (hs : s.Hushed) : s.reevaluate.Hushed :=
  hs.of_beside s.reevaluate_steps.beside hs.reevaluate_collector

theorem State.swapDone_collector (s : State) (r : ArmRecord) : (s.swapDone r).collector = s.collector := State.report_collector _ _

theorem State.Hushed.swapDone {s : State} (hs : s.Hushed) (r : ArmRecord) : (s.swapDone r).Hushed :=
  hs.of_beside (s.swapDone_steps r).beside (s.swapDone_collector r)

theorem State.Hushed.finishSwap_collector {s : State} (hs : s.Hushed) (r : ArmRecord) : (s.finishSwap r).collector = s.collector :=
  ((hs.swapDone r).reevaluate_collector).trans (s.swapDone_collector r)

theorem State.Hushed.settleSwaps_collector {s : State} (hs : s.Hushed) (n : Nat) : (State.settleSwaps n s).collector = s.collector := by
  induction n generalizing s with
  | zero => rfl
  | succ n ih =>
    unfold State.settleSwaps
    split
    · rfl
    · next r _ => exact (ih ((hs.swapDone r).reevaluate)).trans (hs.finishSwap_collector r)

theorem State.Hushed.settleSwaps {s : State} (hs : s.Hushed) (n : Nat) : (State.settleSwaps n s).Hushed :=
  hs.of_beside (State.settleSwaps_steps n s).beside (hs.settleSwaps_collector n)

/-- Of an emptied link side the record write alone can stand as an offer. -/
theorem State.Hushed.stands {s : State} (hs : s.Hushed) {x : Source} (h : s.stands x = true) : x = .record := by
  cases x with
  | record => rfl
  | fetch => simp [State.stands, State.fetchStands, hs.load] at h
  | priority => simp only [State.stands] at h; rw [hs.collector] at h; cases h
  | path => simp [State.stands, hs.outQueue] at h
  | ordinary => simp only [State.stands] at h; rw [hs.collector] at h; cases h
  | fill =>
    simp only [State.stands, State.fillStands] at h
    split at h
    · next b hb => simp [hs.burst b hb] at h
    · cases h

theorem State.Hushed.waitingInsert {s : State} (hs : s.Hushed) : s.waitingInsert = none := by
  simp [State.waitingInsert, hs.translator]

theorem State.Hushed.conclude_eq {s : State} (hs : s.Hushed) : s.conclude = (State.settleSwaps 2 s).choicePoint := by
  have hwaits := (hs.settleSwaps 2).waitingInsert
  rw [State.conclude, State.retryInsert_of_waitingInsert_none hwaits,
    State.retryInsert_of_waitingInsert_none (by rwa [State.choicePoint_waitingInsert])]

theorem State.Hushed.choicePoint_of_record {s : State} (hs : s.Hushed) (hport : s.port = none) (hwrite : s.status.write = .offered) :
    s.choicePoint = s.grantRecord := by
  rw [State.choicePoint_of_port_none hport]
  match hx : s.pick s.stands with
  | none =>
    have := (s.pick_eq_none_iff _).1 hx .record
    simp [State.stands, State.recordStands, hwrite] at this
  | some x =>
    obtain rfl := hs.stands (State.pick_visible hx)
    rfl

theorem State.Hushed.choicePoint_of_no_record {s : State} (hs : s.Hushed) (hwrite : s.status.write ≠ .offered) : s.choicePoint = s := by
  match hport : s.port with
  | some f => exact State.choicePoint_of_port_isSome (by rw [hport]; rfl)
  | none =>
    rw [State.choicePoint_of_port_none hport]
    match hx : s.pick s.stands with
    | none => rfl
    | some x =>
      have hstands := State.pick_visible hx
      obtain rfl := hs.stands hstands
      simp [State.stands, State.recordStands, hwrite] at hstands

/-! ### The cancelled jobs (R148) -/

/-- What of the burst in hand stays there when its job is cancelled. -/
def State.cancelledBurst (s : State) : Option FillBurst :=
  s.fill.burst.bind fun b => if b.granted = true then some { b with cancelled := true } else none

theorem State.cancelAllJobs_eq (s : State) (leavePaused : Bool) :
    s.cancelAllJobs leavePaused =
      { s with
        planes := { s.planes with a := { s.planes.a with backgroundPending := false }, b := { s.planes.b with backgroundPending := false } }
        fill := { burst := s.cancelledBurst, jobs := [], paused := leavePaused, pauseAsked := false } } := by
  have hfill : (s.cancelAllJobs leavePaused).fill =
      { burst := s.cancelledBurst, jobs := [], paused := leavePaused, pauseAsked := false } := s.cancelAllJobs_fill leavePaused
  rw [← hfill]
  rfl

/-! ### Link reset (R16) -/

/-- The state the switch finds at the assertion of link reset. -/
theorem State.linkResetBeforeSwitch_eq (s : State) :
    ∃ fl w b, s.linkResetBeforeSwitch =
      { s with
        front := { s.front with link := .resetHold, settleTimer := none }
        inbound := []
        router := none
        outQueue := []
        mailboxOutstanding := none
        responses := []
        translator := .idle
        collector := s.collector.clear none
        layouts := { slots := s.abortedSlots, load := none }
        planes := { s.planes with a := { s.planes.a with backgroundPending := false }, b := { s.planes.b with backgroundPending := false } }
        fill := { burst := s.cancelledBurst, jobs := [], paused := false, pauseAsked := false }
        port := s.port.map Flight.unwanted
        pointer := .path
        fetchFirst := b
        decoder := { s.decoder with busy := false, lastResult := s.abortedResult }
        status := { s.status with flags := fl, write := w } } ∧
      w = s.status.write.linkReset := by
  have hwrite : s.linkBlocksReset.abortLoad.status.write = s.status.write.linkReset := by
    refine s.linkBlocksReset.abortLoad_causeTold ?_ ?_
    all_goals
      show s.status.write.linkReset ≠ _
      cases s.status.write <;> decide
  obtain ⟨fl, w, b, busy, h⟩ := s.linkBlocksReset.abortLoad_eq
  rw [h] at hwrite
  refine ⟨fl, w, b, ?_, hwrite⟩
  unfold State.linkResetBeforeSwitch
  rw [h, State.cancelAllJobs_eq]
  rfl

theorem State.cancelledBurst_granted {s : State} {b : FillBurst} (h : s.cancelledBurst = some b) : b.granted = true := by
  unfold State.cancelledBurst at h
  obtain ⟨b', -, hb⟩ := Option.bind_eq_some_iff.1 h
  split at hb
  · next hgranted => cases hb; exact hgranted
  · cases hb

theorem State.unwanted_port_flushOf {s t : State} (h : t.port = s.port.map Flight.unwanted) (f : Flight) (p : Plane)
    (hf : t.port = some f) : f.flushOf p = [] := by
  rw [h] at hf
  obtain ⟨g, -, rfl⟩ := Option.map_eq_some_iff.1 hf
  exact g.unwanted_flushOf p

theorem State.linkResetBeforeSwitch_hushed (s : State) : s.linkResetBeforeSwitch.Hushed := by
  obtain ⟨fl, w, b, h, -⟩ := s.linkResetBeforeSwitch_eq
  rw [h]
  exact ⟨rfl, rfl, rfl, rfl, fun b hb => State.cancelledBurst_granted hb, State.unwanted_port_flushOf rfl⟩

/-- The record write after link reset waits for the link. -/
theorem State.linkResetBeforeSwitch_write (s : State) : s.linkResetBeforeSwitch.status.write = s.status.write.linkReset := by
  obtain ⟨fl, w, b, h, hw⟩ := s.linkResetBeforeSwitch_eq
  rw [h]
  exact hw

theorem RecordWrite.linkReset_waits (w : RecordWrite) : w.linkReset = .due ∨ w.linkReset = .writingDue := by
  cases w <;> simp [RecordWrite.linkReset]

theorem State.resetSwitch_steps (s : State) : SwapSteps s s.resetSwitch.1 := by
  unfold State.resetSwitch
  split
  · exact .refl s
  · split
    · exact s.swapDone_steps _
    · exact s.withdraw_steps

theorem State.resetSwitch_collector (s : State) : s.resetSwitch.1.collector = s.collector := by
  unfold State.resetSwitch
  split
  · rfl
  · split
    · exact s.swapDone_collector _
    · rfl

theorem State.Hushed.resetSwitch {s : State} (hs : s.Hushed) : s.resetSwitch.1.Hushed :=
  hs.of_beside s.resetSwitch_steps.beside s.resetSwitch_collector

theorem State.linkReset_steps (s : State) : SwapSteps s.linkResetBeforeSwitch s.linkReset := by
  rw [State.linkReset_eq]
  split
  · exact (State.resetSwitch_steps _).trans (State.reevaluate_steps _)
  · exact State.resetSwitch_steps _

theorem State.linkReset_collector (s : State) : s.linkReset.collector = s.collector.clear none := by
  have hhushed := s.linkResetBeforeSwitch_hushed
  have hcleared : s.linkResetBeforeSwitch.collector = s.collector.clear none := by
    obtain ⟨fl, w, b, h, -⟩ := s.linkResetBeforeSwitch_eq
    rw [h]
  rw [State.linkReset_eq, ← hcleared]
  split
  · exact hhushed.resetSwitch.reevaluate_collector.trans (State.resetSwitch_collector _)
  · exact State.resetSwitch_collector _

/-- The step that asserts link reset ends with what the reset leaves: no offer stands. -/
theorem State.linkReset_conclude (s : State) :
    ∃ u, SwapSteps s.linkResetBeforeSwitch u ∧ u.collector = s.collector.clear none ∧ s.linkReset.conclude = u ∧
      u = State.settleSwaps 2 s.linkReset := by
  have hsteps : SwapSteps s.linkResetBeforeSwitch (State.settleSwaps 2 s.linkReset) :=
    s.linkReset_steps.trans (State.settleSwaps_steps 2 _)
  have hhushed : s.linkReset.Hushed :=
    s.linkResetBeforeSwitch_hushed.of_beside s.linkReset_steps.beside (by
      rw [State.linkReset_collector]
      obtain ⟨fl, w, b, h, -⟩ := s.linkResetBeforeSwitch_eq
      rw [h])
  have hwaits := s.status.write.linkReset_waits
  rw [← State.linkResetBeforeSwitch_write] at hwaits
  have hwrite : (State.settleSwaps 2 s.linkReset).status.write = s.linkResetBeforeSwitch.status.write :=
    hsteps.causeTold (by obtain h | h := hwaits <;> simp [h]) (by obtain h | h := hwaits <;> simp [h])
  refine ⟨_, hsteps, ?_, ?_, rfl⟩
  · rw [hhushed.settleSwaps_collector, State.linkReset_collector]
  · rw [hhushed.conclude_eq]
    refine (hhushed.settleSwaps 2).choicePoint_of_no_record ?_
    rw [hwrite]
    obtain h | h := hwaits <;> simp [h]

theorem State.resetSwitch_kept (s : State) : s.resetSwitch.1.kept = s.kept := by
  unfold State.resetSwitch
  split
  · rfl
  · split
    · exact s.swapDone_kept _
    · rfl

theorem State.linkReset_kept (s : State) : s.linkReset.kept = s.linkResetBeforeSwitch.kept := by
  rw [State.linkReset_eq]
  split
  · exact (State.reevaluate_kept _).trans (State.resetSwitch_kept _)
  · exact State.resetSwitch_kept _

theorem State.linkReset_of_unmoved {s : State} {r : ArmRecord} (h : s.planes.switch = .armed r) (hmoved : r.selectMoved = false) :
    s.linkReset = s.linkResetBeforeSwitch.withdraw := by
  have harmed : s.linkResetBeforeSwitch.planes.switch = .armed r := by
    obtain ⟨fl, w, b, hv, -⟩ := s.linkResetBeforeSwitch_eq
    rw [hv]
    exact h
  rw [State.linkReset_eq, State.resetSwitch_of_unmoved harmed hmoved]
  rfl

theorem State.linkReset_of_moved {s : State} {r : ArmRecord} (h : s.planes.switch = .armed r) (hmoved : r.selectMoved = true) :
    s.linkReset = s.linkResetBeforeSwitch.finishSwap r := by
  have harmed : s.linkResetBeforeSwitch.planes.switch = .armed r := by
    obtain ⟨fl, w, b, hv, -⟩ := s.linkResetBeforeSwitch_eq
    rw [hv]
    exact h
  rw [State.linkReset_eq, State.resetSwitch_of_moved harmed hmoved]
  rfl

/-- A step's end keeps the flag of a swap done before it. -/
theorem State.conclude_finishSwap_flag (s : State) (r : ArmRecord) : (s.finishSwap r).conclude.flag .swapDone = true :=
  State.conclude_flagsStay _ _ (State.reevaluate_flagsStay _ _ (s.swapDone_flag r))

theorem exec_linkReset {s : State} (hline : s.pins.linkReset = false) (hpower : s.pins.powerOnReset = false) :
    exec .linkReset s = .next ({ s with pins := { s.pins with linkReset := true } } : State).linkReset.conclude := by
  refine exec_of_concluded ?_
  simp only [act, actLinkReset, hline, hpower]
  rfl

/-- Settles O20: every block is emptied before the switch acts, and on an emptied link side the rest of the step is the swap alone. -/
theorem linkResetEmptiesTheLinkSide : Obligations.LinkResetEmptiesTheLinkSide := by
  refine ⟨fun s hline hpower => ?blocks, fun s r hline hpower harmed => ?switch⟩
  case blocks =>
    let s' : State := { s with pins := { s.pins with linkReset := true } }
    obtain ⟨u, hsteps, hcollector, hconclude, -⟩ := s'.linkReset_conclude
    obtain ⟨fl, w, b, hv, hw⟩ := s'.linkResetBeforeSwitch_eq
    have hbeside := hsteps.beside
    have hkept : u.kept = s'.linkResetBeforeSwitch.kept := by
      rw [← hconclude, State.conclude_kept, State.linkReset_kept]
    have hwrite : u.status.write = s.status.write.linkReset := by
      refine (hsteps.causeTold ?_ ?_).trans s'.linkResetBeforeSwitch_write
      all_goals
        rw [State.linkResetBeforeSwitch_write]
        obtain h | h := s'.status.write.linkReset_waits <;> simp [h]
    refine ⟨u, hconclude ▸ exec_linkReset hline hpower, ?_⟩
    rw [hv] at hbeside hkept
    simp only [State.kept, Kept.mk.injEq] at hkept
    obtain ⟨hpins, hfront, hinbound, hmailbox, hslots, -, hbindA, hbindB, -, -, -, hframe, htracker, hdecoder, -, hmem, -⟩ := hkept
    simp only [State.beside, Beside.mk.injEq] at hbeside
    obtain ⟨-, hrouter, hout, hresponses, hsent, htranslator, hlayouts, ha, hb, hburst, hpaused, hasked, hport, hpointer, hcounters, -⟩ :=
      hbeside
    refine ⟨hpins, hfront, hinbound, hrouter, hout, hmailbox, hresponses, hsent, htranslator, by rw [hcollector]; rfl,
      by rw [hcollector]; rfl, by rw [hcollector]; rfl, by rw [hcollector]; rfl, by rw [hcollector]; rfl, by rw [hcollector]; rfl,
      by rw [hcollector]; rfl, by rw [hlayouts], fun i => ?_, hdecoder, hburst, hpaused, hasked, fun p => ?_, ?_, hpointer, hwrite,
      hcounters, htracker, hframe, hmem⟩
    · rw [hlayouts]
      exact s'.abortedSlots_get i
    · cases p
      · exact ⟨congrArg PlaneEntry.backgroundPending ha, hbindA⟩
      · exact ⟨congrArg PlaneEntry.backgroundPending hb, hbindB⟩
    · rw [hport]
      exact congrArg (fun g => s.port.map g) (funext Flight.unwanted_eq)
  case switch =>
    let s' : State := { s with pins := { s.pins with linkReset := true } }
    obtain ⟨u, hsteps, -, hconclude, hu⟩ := s'.linkReset_conclude
    obtain ⟨fl, w, b, hv, -⟩ := s'.linkResetBeforeSwitch_eq
    refine ⟨u, hconclude ▸ exec_linkReset hline hpower, fun hmoved => ?_, fun hmoved => ?_⟩
    · have hreset := State.linkReset_of_unmoved (s := s') harmed hmoved
      have hstay : u = s'.linkResetBeforeSwitch.withdraw := by
        rw [hu, hreset]
        exact State.settleSwaps_succ_none (State.swapDue_of_steady rfl) 1
      rw [hstay, hv]
      exact ⟨rfl, rfl, rfl, rfl⟩
    · have hreset := State.linkReset_of_moved (s := s') harmed hmoved
      rw [hreset] at hconclude
      have hlayouts : s'.linkResetBeforeSwitch.layouts = u.layouts := (congrArg Beside.layouts hsteps.beside).symm
      refine ⟨hconclude ▸ State.conclude_finishSwap_flag _ r, fun hscan => ?_, s'.linkResetBeforeSwitch, hconclude.symm, ?_⟩
      · have hframe : (s'.linkResetBeforeSwitch.finishSwap r).frame = s.frame := by
          rw [show (s'.linkResetBeforeSwitch.finishSwap r).frame = s'.linkResetBeforeSwitch.frame from
            congrArg Kept.frame (State.finishSwap_kept _ r), hv]
        obtain ⟨w, hplanes⟩ := s'.linkResetBeforeSwitch.finishSwap_planes r
        rw [← hconclude, State.conclude_planes (State.swapDue_of_scanning (by rw [hframe]; exact hscan)), hplanes]
      · rw [← hlayouts, hv]
        exact ⟨harmed, rfl, rfl, rfl, fun p => by cases p <;> rfl, rfl, rfl, rfl, rfl, rfl, rfl, rfl, rfl, rfl⟩

end Sys2Proof.Machine
end

section
/-! The soft reset (R17, R40, R63, R93, R115, R148, R158, R166). -/

namespace Sys2Proof.Machine

/-! ### A record write that the next cause offers -/

/-- The link can take a record write, and none is in flight or waits: the next cause offers one (R171, R172). -/
structure State.RecordReady (s : State) : Prop where
  active : s.front.link.active = true
  rests : s.status.write = .quiet ∨ s.status.write = .offered

theorem State.RecordReady.recordCause_write {s : State} (h : s.RecordReady) : s.recordCause.status.write = .offered := by
  obtain ⟨hactive, hquiet | hoffered⟩ := h
  · simp [State.recordCause, State.offerRecord, State.offerOrDefer, hquiet, hactive]
  · simp [State.recordCause, hoffered]

theorem State.RecordReady.recordCause {s : State} (h : s.RecordReady) : s.recordCause.RecordReady := by
  refine ⟨?_, .inr h.recordCause_write⟩
  rw [show s.recordCause.front = s.front from congrArg Kept.front s.recordCause_kept]
  exact h.active

theorem State.RecordReady.report {s : State} (h : s.RecordReady) (f : EventFlag) : (s.report f).RecordReady := by
  unfold State.report
  split
  · exact h
  · exact State.RecordReady.recordCause (s := { s with status := { s.status with flags := s.status.flags ||| f.mask } })
      ⟨h.active, h.rests⟩

theorem State.RecordReady.of_swapSteps {s t : State} (h : s.RecordReady) (k : SwapSteps s t) : t.RecordReady := by
  induction k with
  | refl => exact h
  | tail _ hstep ih =>
    cases hstep with
    | report f => exact ih.report f
    | goes hbeside hstatus =>
      have hfront := congrArg Beside.front hbeside
      exact ⟨(congrArg (fun f : FrontEnd => f.link.active) hfront).trans ih.active, by rw [hstatus]; exact ih.rests⟩

theorem State.RecordReady.abortLoad {s : State} (h : s.RecordReady) : s.abortLoad.RecordReady := by
  unfold State.abortLoad
  split
  · exact h
  · next l _ =>
    let ended : State :=
      { s with
        layouts := { slots := s.layouts.slots.set l.slot (restoredSlot s.layouts.slots[l.slot]), load := none }
        decoder := { s.decoder with busy := false, lastResult := .aborted } }
    have hended : ended.RecordReady := ⟨h.active, h.rests⟩
    exact hended.recordCause.report .loadDone

/-! ### The end of the step of an emptied link side -/

theorem State.Hushed.conclude_cases {s : State} (hs : s.Hushed) :
    s.conclude = State.settleSwaps 2 s ∨ (s.port = none ∧ s.conclude = (State.settleSwaps 2 s).grantRecord) := by
  have hport : (State.settleSwaps 2 s).port = s.port := congrArg Beside.port (State.settleSwaps_steps 2 s).beside
  rw [hs.conclude_eq]
  by_cases hwrite : (State.settleSwaps 2 s).status.write = .offered
  · match hp : s.port with
    | some f => exact .inl (State.choicePoint_of_port_isSome (by rw [hport, hp]; rfl))
    | none => exact .inr ⟨rfl, (hs.settleSwaps 2).choicePoint_of_record (hport.trans hp) hwrite⟩
  · exact .inl ((hs.settleSwaps 2).choicePoint_of_no_record hwrite)

/-- It leaves alone all but the planes, the fill queue and a grant of the record write. -/
theorem State.Hushed.conclude_beside {s : State} (hs : s.Hushed) : s.conclude.beside = { s.beside with port := s.conclude.port } := by
  have hbeside := (State.settleSwaps_steps 2 s).beside
  obtain h | ⟨-, h⟩ := hs.conclude_cases
  · rw [h, ← hbeside]; rfl
  · rw [h, ← hbeside]; rfl

theorem State.Hushed.conclude_collector {s : State} (hs : s.Hushed) : s.conclude.collector = s.collector := by
  have hcollector := hs.settleSwaps_collector 2
  obtain h | ⟨-, h⟩ := hs.conclude_cases
  · rw [h, hcollector]
  · rw [h, ← hcollector]; rfl

theorem State.Hushed.conclude_port {s : State} (hs : s.Hushed) {f : Flight} (hf : s.port = some f) : s.conclude.port = some f := by
  obtain h | ⟨hnone, -⟩ := hs.conclude_cases
  · rw [h, ← hf]; exact congrArg Beside.port (State.settleSwaps_steps 2 s).beside
  · rw [hnone] at hf; cases hf

theorem State.Hushed.conclude_record {s : State} (hs : s.Hushed) (hport : s.port = none) (hwrite : s.status.write = .offered) :
    ∃ f, s.conclude.port = some f ∧ f.origin = .record := by
  have hsteps := State.settleSwaps_steps 2 s
  have hwrite' : (State.settleSwaps 2 s).status.write = .offered :=
    (hsteps.causeTold (by simp [hwrite]) (by simp [hwrite])).trans hwrite
  rw [hs.conclude_eq, (hs.settleSwaps 2).choicePoint_of_record ((congrArg Beside.port hsteps.beside).trans hport) hwrite']
  exact ⟨_, rfl, rfl⟩

/-- With no swap due it grants a record write at most. -/
theorem State.Hushed.conclude_no_swap {s : State} (hs : s.Hushed) (h : s.swapDue = none) :
    s.conclude.offGrant = s.offGrant := by
  rw [hs.conclude_eq, State.settleSwaps_succ_none h, State.choicePoint_offGrant]

/-! ### The zero answers (R17) -/

theorem flatMap_replicate_eq {α β : Type} (f : α → Nat) (x : β) (l : List α) :
    (l.flatMap fun a => List.replicate (f a) x) = List.replicate (l.map f).sum x := by
  induction l with
  | nil => rfl
  | cons a l ih => rw [List.flatMap_cons, ih, List.map_cons, List.sum_cons, List.replicate_add]

theorem State.answerZeros_sentUpstream (s : State) :
    s.answerZeros.sentUpstream =
      s.sentUpstream ++
        List.replicate
          ((s.responses.map fun r => r.beats.length - r.sent).sum +
            (s.inbound.map fun r => if r.payload.isWrite then 0 else r.payload.length).sum)
          (Quad.replicate (Quad.replicate 0)) := by
  have hzero : zeroAnswer = fun r : Request =>
      List.replicate (if r.payload.isWrite then 0 else r.payload.length) (Quad.replicate (Quad.replicate 0)) := by
    funext r
    unfold zeroAnswer
    split
    · next h => rw [h]; rfl
    · next h => rw [h]; rfl
  show s.sentUpstream ++ s.responses.flatMap zeroRest ++ s.inbound.flatMap zeroAnswer = _
  rw [hzero, flatMap_replicate_eq, show zeroRest = fun r : Response =>
    List.replicate (r.beats.length - r.sent) (Quad.replicate (Quad.replicate 0)) from rfl, flatMap_replicate_eq, List.append_assoc,
    List.replicate_append_replicate]

/-! ### The blocks, then the switch -/

theorem State.withdrawRecord_eq (s : State) : ∃ w, s.withdrawRecord = { s with status := { s.status with write := w } } := by
  unfold State.withdrawRecord
  split
  · exact ⟨_, rfl⟩
  · exact ⟨_, rfl⟩

/-- The state the switch finds at a soft reset. -/
theorem State.softResetBlocks_fields (s : State) :
    ∃ fl w b busy, s.softResetBlocks =
      { s with
        inbound := []
        router := none
        outQueue := []
        mailboxOutstanding := none
        responses := []
        sentUpstream := s.answerZeros.sentUpstream
        translator := .idle
        collector := s.collector.clear (if s.front.link.active then some s.collector.ageInterval else none)
        layouts := { slots := s.abortedSlots, load := none }
        planes := { s.planes with a := { s.planes.a with backgroundPending := false }, b := { s.planes.b with backgroundPending := false } }
        fill := { burst := s.cancelledBurst, jobs := [], paused := decide (s.front.link = .sleepDrain), pauseAsked := false }
        port := s.port.map Flight.unwanted
        pointer := .path
        fetchFirst := b
        decoder := { s.decoder with busy := busy, lastResult := s.abortedResult }
        status := { s.status with flags := fl, write := w } } := by
  obtain ⟨w', hw⟩ := s.answerZeros.emptyPath.withdrawRecord_eq
  obtain ⟨fl, w, b, busy, h⟩ := s.softEmptied.abortLoad_eq
  refine ⟨fl, w, b, busy, ?_⟩
  rw [State.softResetBlocks_eq, h, State.cancelAllJobs_eq]
  unfold State.softEmptied
  rw [hw]
  rfl

theorem State.softResetBlocks_hushed (s : State) : s.softResetBlocks.Hushed := by
  obtain ⟨fl, w, b, busy, h⟩ := s.softResetBlocks_fields
  rw [h]
  exact ⟨rfl, rfl, rfl, rfl, fun b hb => State.cancelledBurst_granted hb, State.unwanted_port_flushOf rfl⟩

/-- R158, R171: a write offered is withdrawn; the causes of the reset offer it anew. -/
theorem State.softResetBlocks_recordReady {s : State} (hactive : s.front.link.active = true)
    (hrests : s.status.write = .quiet ∨ s.status.write = .offered) : s.softResetBlocks.RecordReady := by
  have hemptied : s.softEmptied.RecordReady := by
    obtain ⟨w, hw⟩ := s.answerZeros.emptyPath.withdrawRecord_eq
    have hquiet : s.answerZeros.emptyPath.withdrawRecord.status.write = .quiet := by
      unfold State.withdrawRecord State.recordStands
      obtain h | h := hrests <;> simp [State.answerZeros, State.emptyPath, h, State.setWrite]
    refine ⟨?_, .inl hquiet⟩
    unfold State.softEmptied
    rw [hw]
    exact hactive
  obtain ⟨hlink, hwrite⟩ := hemptied.abortLoad
  rw [State.softResetBlocks_eq, State.cancelAllJobs_eq]
  exact ⟨hlink, hwrite⟩

/-- What the switch makes of the planes at a reset (R114, R115): a swap whose select has moved is done, any other withdrawn. -/
def Planes.switchReset (t : Planes) : Planes :=
  match t.switch with
  | .steady => t
  | .armed r =>
    { t with
      scanned := if r.selectMoved then r.target else t.scanned
      select := if r.selectMoved then r.target else t.select
      switch := .steady }

theorem Planes.switchReset_of_steady {t : Planes} (h : t.switch = .steady) : t.switchReset = t := by
  rw [Planes.switchReset, h]

theorem Planes.switchReset_of_armed {t : Planes} {r : ArmRecord} (h : t.switch = .armed r) :
    t.switchReset =
      { t with
        scanned := if r.selectMoved then r.target else t.scanned
        select := if r.selectMoved then r.target else t.select
        switch := .steady } := by
  rw [Planes.switchReset, h]

theorem Planes.switchReset_switch (t : Planes) : t.switchReset.switch = .steady := by
  unfold Planes.switchReset
  split
  · next h => exact h
  · rfl

theorem State.resetSwitch_eq (s : State) :
    ∃ fl w b, s.resetSwitch.1 =
      { s with planes := s.planes.switchReset, status := { s.status with flags := fl, write := w }, fetchFirst := b } := by
  match hswitch : s.planes.switch with
  | .steady =>
    rw [State.resetSwitch_of_steady hswitch, Planes.switchReset_of_steady hswitch]
    exact ⟨s.status.flags, s.status.write, s.fetchFirst, rfl⟩
  | .armed r =>
    rw [Planes.switchReset_of_armed hswitch]
    match hmoved : r.selectMoved with
    | false =>
      rw [State.resetSwitch_of_unmoved hswitch hmoved]
      exact ⟨s.status.flags, s.status.write, s.fetchFirst, rfl⟩
    | true =>
      rw [State.resetSwitch_of_moved hswitch hmoved]
      exact State.report_eq { s with planes := { s.planes with scanned := r.target, select := r.target, switch := .steady } } .swapDone

/-- The planes with both marks cleared. -/
def Planes.unmarked (t : Planes) : Planes :=
  { t with a := { t.a with backgroundPending := false }, b := { t.b with backgroundPending := false } }

/-- A soft reset before its re-evaluation and its record. -/
theorem State.softResetBeforeRecord_fields (s : State) :
    ∃ w b, s.softResetBeforeRecord =
      { s with
        inbound := []
        router := none
        outQueue := []
        mailboxOutstanding := none
        responses := []
        sentUpstream := s.answerZeros.sentUpstream
        translator := .idle
        collector := s.collector.clear (if s.front.link.active then some s.collector.ageInterval else none)
        layouts := { slots := s.abortedSlots, load := none }
        planes := s.planes.unmarked.switchReset
        fill := { burst := s.cancelledBurst, jobs := [], paused := decide (s.front.link = .sleepDrain), pauseAsked := false }
        port := s.port.map Flight.unwanted
        pointer := .path
        fetchFirst := b
        decoder :=
          { busy := false, lastCommand := 12, lastResult := if s.layouts.load.isSome then .aborted else .ok, taken := 0 }
        status := { s.status with flags := 0, counters := Counters.zero, write := w } } := by
  obtain ⟨fl, w, b, busy, h⟩ := s.softResetBlocks_fields
  obtain ⟨fl', w', b', h'⟩ := s.softResetBlocks.resetSwitch_eq
  refine ⟨w', b', ?_⟩
  unfold State.softResetBeforeRecord
  rw [h', h]
  rfl

theorem State.softResetBeforeRecord_hushed (s : State) : s.softResetBeforeRecord.Hushed := by
  obtain ⟨w, b, h⟩ := s.softResetBeforeRecord_fields
  rw [h]
  exact ⟨rfl, rfl, rfl, rfl, fun b hb => State.cancelledBurst_granted hb, State.unwanted_port_flushOf rfl⟩

theorem State.softResetBeforeRecord_recordReady {s : State} (hactive : s.front.link.active = true)
    (hrests : s.status.write = .quiet ∨ s.status.write = .offered) : s.softResetBeforeRecord.RecordReady := by
  obtain ⟨hlink, hwrite⟩ := (s.softResetBlocks_recordReady hactive hrests).of_swapSteps (State.resetSwitch_steps _)
  exact ⟨hlink, hwrite⟩

theorem State.recordCause_beside (s : State) : s.recordCause.beside = s.beside := by
  obtain ⟨w, b, h⟩ := s.recordCause_eq
  rw [h]; rfl

theorem State.recordCause_collector (s : State) : s.recordCause.collector = s.collector := by
  obtain ⟨w, b, h⟩ := s.recordCause_eq
  rw [h]

theorem State.Hushed.recordCause {s : State} (hs : s.Hushed) : s.recordCause.Hushed :=
  hs.of_beside s.recordCause_beside s.recordCause_collector

/-- What a soft reset leaves before its record: with a re-evaluation where a swap was done. -/
def State.softResetEvaluated (s : State) : State :=
  if s.softResetBlocks.resetSwitch.2 then s.softResetBeforeRecord.reevaluate else s.softResetBeforeRecord

theorem State.takeReset_eq_evaluated (s : State) : s.takeReset = s.softResetEvaluated.recordCause := rfl

theorem State.softResetEvaluated_steps (s : State) : SwapSteps s.softResetBeforeRecord s.softResetEvaluated := by
  unfold State.softResetEvaluated
  split
  · exact State.reevaluate_steps _
  · exact .refl _

theorem State.softResetEvaluated_collector (s : State) : s.softResetEvaluated.collector = s.softResetBeforeRecord.collector := by
  unfold State.softResetEvaluated
  split
  · exact s.softResetBeforeRecord_hushed.reevaluate_collector
  · rfl

theorem State.softResetEvaluated_kept (s : State) : s.softResetEvaluated.kept = s.softResetBeforeRecord.kept := by
  unfold State.softResetEvaluated
  split
  · exact State.reevaluate_kept _
  · rfl

theorem State.takeReset_beside (s : State) : s.takeReset.beside = s.softResetBeforeRecord.beside := by
  rw [State.takeReset_eq_evaluated, State.recordCause_beside, s.softResetEvaluated_steps.beside]

theorem State.takeReset_collector (s : State) : s.takeReset.collector = s.softResetBeforeRecord.collector := by
  rw [State.takeReset_eq_evaluated, State.recordCause_collector, State.softResetEvaluated_collector]

theorem State.takeReset_hushed (s : State) : s.takeReset.Hushed :=
  s.softResetBeforeRecord_hushed.of_beside s.takeReset_beside s.takeReset_collector

theorem State.takeReset_kept (s : State) : s.takeReset.kept = s.softResetBeforeRecord.kept := by
  rw [State.takeReset_eq_evaluated, State.recordCause_kept, State.softResetEvaluated_kept]

theorem State.takeReset_write {s : State} (hactive : s.front.link.active = true)
    (hrests : s.status.write = .quiet ∨ s.status.write = .offered) : s.takeReset.status.write = .offered := by
  rw [State.takeReset_eq_evaluated]
  exact ((s.softResetBeforeRecord_recordReady hactive hrests).of_swapSteps s.softResetEvaluated_steps).recordCause_write

theorem State.softResetBlocks_switch (s : State) : s.softResetBlocks.planes.switch = s.planes.switch := by
  obtain ⟨fl, w, b, busy, h⟩ := s.softResetBlocks_fields
  rw [h]

/-- Where no swap is done the soft reset re-evaluates nothing. -/
theorem State.softResetEvaluated_of_no_swap {s : State}
    (h : s.planes.switch = .steady ∨ ∃ r, s.planes.switch = .armed r ∧ r.selectMoved = false) :
    s.softResetEvaluated = s.softResetBeforeRecord := by
  unfold State.softResetEvaluated
  obtain hsteady | ⟨r, harmed, hmoved⟩ := h
  · rw [State.resetSwitch_of_steady (s.softResetBlocks_switch.trans hsteady)]; rfl
  · rw [State.resetSwitch_of_unmoved (s.softResetBlocks_switch.trans harmed) hmoved]; rfl

theorem State.softResetEvaluated_of_swap {s : State} {r : ArmRecord} (harmed : s.planes.switch = .armed r)
    (hmoved : r.selectMoved = true) : s.softResetEvaluated = s.softResetBeforeRecord.reevaluate := by
  unfold State.softResetEvaluated
  rw [State.resetSwitch_of_moved (s.softResetBlocks_switch.trans harmed) hmoved]
  rfl

/-- The planes and flags at the end of the step, where nothing is re-evaluated. -/
theorem State.takeReset_conclude_offGrant {s : State} (h : s.softResetEvaluated = s.softResetBeforeRecord) :
    s.takeReset.conclude.planes = s.planes.unmarked.switchReset ∧ s.takeReset.conclude.fill.jobs = [] ∧
      s.takeReset.conclude.status.flags = 0 := by
  obtain ⟨w, b, hv⟩ := s.softResetBeforeRecord_fields
  have hreset : s.takeReset = s.softResetBeforeRecord.recordCause := by rw [State.takeReset_eq_evaluated, h]
  obtain ⟨w', b', hcause⟩ := s.softResetBeforeRecord.recordCause_eq
  have hplanes : s.takeReset.planes = s.planes.unmarked.switchReset := by rw [hreset, hcause, hv]
  have hoff := s.takeReset_hushed.conclude_no_swap (State.swapDue_of_steady (by rw [hplanes, Planes.switchReset_switch]))
  refine ⟨(congrArg OffGrant.planes hoff).trans hplanes, (congrArg OffGrant.jobs hoff).trans ?_, (congrArg OffGrant.flags hoff).trans ?_⟩
  · show s.takeReset.fill.jobs = []
    rw [hreset, hcause, hv]
  · show s.takeReset.status.flags = 0
    rw [hreset, hcause, hv]

theorem exec_reset {s : State} (h : s.decoderReached = true) :
    exec (.reset (~~~12)) s = .next (s.noteTaken 12).takeReset.conclude :=
  exec_of_concluded (State.controlRecord_reset s State.takeReset h)

/-- Settles O53: every block starts anew before the switch acts; on an emptied link side the rest of the step is the swap and the grant of
the record. -/
theorem softResetStartsTheLinkSideAnew : Obligations.SoftResetStartsTheLinkSideAnew := by
  intro s hreached zero unsent unread
  let s' : State := s.noteTaken 12
  have hactive : s.front.link.active = true := by
    simp only [State.decoderReached, Bool.and_eq_true] at hreached
    exact hreached.1
  obtain ⟨w, b, hv⟩ := s'.softResetBeforeRecord_fields
  have hhushed := s'.takeReset_hushed
  have hcollector : s'.takeReset.conclude.collector = s.collector.clear (some s.collector.ageInterval) := by
    rw [hhushed.conclude_collector, State.takeReset_collector, hv]
    show s.collector.clear (if s.front.link.active then _ else _) = _
    rw [if_pos hactive]
    rfl
  have hbeside := hhushed.conclude_beside
  rw [State.takeReset_beside, hv] at hbeside
  have hkept : s'.takeReset.conclude.kept = s'.softResetBeforeRecord.kept := by rw [State.conclude_kept, State.takeReset_kept]
  rw [hv] at hkept
  simp only [State.kept, Kept.mk.injEq] at hkept
  obtain ⟨hpins, hfront, hinbound, hmailbox, hslots, -, hbindA, hbindB, -, -, -, hframe, htracker, hdecoder, hmask, hmem, -⟩ := hkept
  simp only [State.beside, Beside.mk.injEq] at hbeside
  obtain ⟨-, hrouter, hout, hresponses, hsent, htranslator, hlayouts, ha, hb, hburst, hpaused, hasked, -, hpointer, hcounters, -⟩ :=
    hbeside
  have hentry : s.planes.unmarked.switchReset.a = { s.planes.a with backgroundPending := false } ∧
      s.planes.unmarked.switchReset.b = { s.planes.b with backgroundPending := false } := by
    unfold Planes.switchReset
    split <;> exact ⟨rfl, rfl⟩
  refine ⟨_, exec_reset hreached, hdecoder, hinbound, hrouter, hout, hresponses, hmailbox, htranslator,
    hsent.trans s.answerZeros_sentUpstream, hcollector, by rw [hlayouts], fun i => ?slots, hburst, hasked, hpaused, fun p => ?entries,
    hcounters, hmask, hpointer, fun f hf => ?flight, fun hport hwrite => ?record, hpins, hfront, hframe, htracker, hmem,
    fun hquiet => ?quiet,
    fun r harmed hmoved hunknown => ?unknown, fun r harmed hmoved => ?swap⟩
  case slots =>
    rw [hlayouts]
    exact s'.abortedSlots_get i
  case entries =>
    cases p
    · exact ⟨congrArg PlaneEntry.backgroundPending (ha.trans hentry.1), hbindA.trans ((congrArg PlaneEntry.binding hentry.1).trans rfl)⟩
    · exact ⟨congrArg PlaneEntry.backgroundPending (hb.trans hentry.2), hbindB.trans ((congrArg PlaneEntry.binding hentry.2).trans rfl)⟩
  case flight =>
    rw [← f.unwanted_eq]
    refine hhushed.conclude_port ?_
    rw [show s'.takeReset.port = s'.softResetBeforeRecord.port from congrArg Beside.port s'.takeReset_beside, hv]
    show s.port.map Flight.unwanted = _
    rw [hf]
    rfl
  case record =>
    refine hhushed.conclude_record ?_ (State.takeReset_write hactive hwrite)
    rw [show s'.takeReset.port = s'.softResetBeforeRecord.port from congrArg Beside.port s'.takeReset_beside, hv]
    show s.port.map Flight.unwanted = _
    rw [hport]
    rfl
  case quiet =>
    obtain ⟨hplanes, hjobs, hflags⟩ := State.takeReset_conclude_offGrant (State.softResetEvaluated_of_no_swap (s := s') hquiet)
    refine ⟨by rw [hplanes, Planes.switchReset_switch], ?_, ?_, hjobs, hflags⟩
    all_goals
      rw [hplanes]
      obtain hsteady | ⟨r, harmed, hmoved⟩ := hquiet
      · rw [Planes.switchReset_of_steady (t := s'.planes.unmarked) hsteady]; rfl
      · rw [Planes.switchReset_of_armed (t := s'.planes.unmarked) harmed, hmoved]; rfl
  case unknown =>
    have hevaluated : s'.softResetEvaluated = s'.softResetBeforeRecord := by
      rw [State.softResetEvaluated_of_swap (s := s') harmed hmoved, State.reevaluate_of_unknown]
      rw [hv]
      exact hunknown
    obtain ⟨hplanes, hjobs, hflags⟩ := State.takeReset_conclude_offGrant hevaluated
    refine ⟨?_, ?_, by rw [hplanes, Planes.switchReset_switch], hjobs, hflags⟩
    all_goals
      rw [hplanes, Planes.switchReset_of_armed (t := s'.planes.unmarked) harmed, hmoved]
      rfl
  case swap =>
    refine ⟨s'.softResetBeforeRecord, ?_, ?_⟩
    · rw [State.takeReset_eq_evaluated, State.softResetEvaluated_of_swap (s := s') harmed hmoved]
    · rw [hlayouts, hcollector, hdecoder, hv]
      rw [Planes.switchReset_of_armed (t := s'.planes.unmarked) harmed, hmoved]
      refine ⟨rfl, rfl, rfl, rfl, fun p => by cases p <;> rfl, rfl, rfl, rfl, ?_, rfl, rfl, rfl, rfl, rfl, rfl⟩
      show s.collector.clear (if s.front.link.active then _ else _) = _
      rw [if_pos hactive]
      rfl

end Sys2Proof.Machine
end

section
/-! What the fill engine leaves alone (R138 to R149), and the collector when the link goes to sleep (R91). -/

namespace Sys2Proof.Machine

/-! ### The fill engine's steps -/

/-- The parts that no work of the fill engine touches. -/
structure OffFill where
  router : Option RouterHold
  outQueue : List Segment
  responses : List Response
  sentUpstream : List DataBeat
  translator : Translator
  collector : Collector
  layouts : LayoutTable
  scanned : Plane
  select : Plane
  switch : Switch
  port : Option Flight
  pointer : Ring
  nextId : Nat
  freeCount : Nat
  kept : Kept

def State.offFill (s : State) : OffFill where
  router := s.router
  outQueue := s.outQueue
  responses := s.responses
  sentUpstream := s.sentUpstream
  translator := s.translator
  collector := s.collector
  layouts := s.layouts
  scanned := s.planes.scanned
  select := s.planes.select
  switch := s.planes.switch
  port := s.port
  pointer := s.pointer
  nextId := s.nextId
  freeCount := s.freeCount
  kept := s.kept

theorem State.report_offFill (s : State) (f : EventFlag) : (s.report f).offFill = s.offFill := by
  obtain ⟨fl, w, b, h⟩ := s.report_eq f
  rw [h]; rfl

/-- A report, a count, or a change of the engine and the marks. -/
inductive FillStep : State → State → Prop
  | report (s : State) (f : EventFlag) : FillStep s (s.report f)
  | count (s : State) (c : Counter) (n : Nat) : FillStep s (s.count c n)
  | goes {s t : State} (h : t.offFill = s.offFill) (hstatus : t.status = s.status) : FillStep s t

def FillSteps (s t : State) : Prop := Relation.ReflTransGen FillStep s t

theorem FillSteps.refl (s : State) : FillSteps s s := Relation.ReflTransGen.refl

theorem FillSteps.trans {s t u : State} (h : FillSteps s t) (k : FillSteps t u) : FillSteps s u := Relation.ReflTransGen.trans h k

theorem FillStep.steps {s t : State} (h : FillStep s t) : FillSteps s t := Relation.ReflTransGen.single h

theorem FillSteps.goes {s t u : State} (h : FillSteps s t) (hoff : u.offFill = t.offFill := by rfl)
    (hstatus : u.status = t.status := by rfl) :
    FillSteps s u := h.trans (FillStep.goes hoff hstatus).steps

theorem State.reportSaturations_fillSteps (s : State) (n : Nat) : FillSteps s (s.reportSaturations n) := by
  cases n with
  | zero => exact .refl s
  | succ n => exact (FillStep.count s .saturation _).steps.trans (FillStep.report _ _).steps

theorem State.buildBurst_fillSteps (s : State) (job : FillJob) (c : Cursor) : FillSteps s (s.buildBurst job c) :=
  (FillSteps.refl s).goes.trans (State.reportSaturations_fillSteps _ _)

theorem State.setPending_offFill (s : State) (p : Plane) (m : Bool) : (s.setPending p m).offFill = s.offFill := by cases p <;> rfl

theorem State.completeJob_fillSteps (s : State) (job : FillJob) (rest : List FillJob) : FillSteps s (s.completeJob job rest) := by
  have hdone : FillSteps s ((s.setJobs rest).report .fillDone) :=
    ((FillSteps.refl s).goes (u := s.setJobs rest)).trans (FillStep.report _ _).steps
  unfold State.completeJob
  dsimp only
  split
  · exact hdone.goes (State.setPending_offFill _ _ _)
  · exact hdone
  · exact hdone

theorem State.startJob_fillSteps (s : State) (job : FillJob) (rest : List FillJob) : FillSteps s (s.startJob job rest) := by
  unfold State.startJob
  dsimp only
  split
  · exact s.completeJob_fillSteps _ _
  · exact (FillSteps.refl s).goes.trans (State.buildBurst_fillSteps _ _ _)

theorem State.takeUpJob_fillSteps (s : State) : FillSteps s s.takeUpJob := by
  unfold State.takeUpJob
  split
  · split
    · exact .refl s
    · split
      · exact s.startJob_fillSteps _ _
      · exact s.buildBurst_fillSteps _ _
  · exact .refl s

theorem State.resumeJob_fillSteps (s : State) : FillSteps s s.resumeJob := by
  unfold State.resumeJob
  split
  · exact .refl s
  · split
    · exact .refl s
    · exact s.takeUpJob_fillSteps

theorem State.endPause_fillSteps (s : State) : FillSteps s s.endPause := (FillSteps.refl s).goes.trans (State.resumeJob_fillSteps _)

theorem State.askPause_fillSteps (s : State) : FillSteps s s.askPause := by
  unfold State.askPause
  split <;> exact (FillSteps.refl s).goes

theorem State.settlePause_fillSteps (s : State) : FillSteps s s.settlePause := by
  unfold State.settlePause
  split <;> exact (FillSteps.refl s).goes

theorem State.jobAdvanced_fillSteps (s : State) (job : FillJob) (rest : List FillJob) (n : Nat) :
    FillSteps s (s.jobAdvanced job rest n) := by
  unfold State.jobAdvanced
  split
  · exact s.settlePause_fillSteps
  · dsimp only
    split
    · exact (s.completeJob_fillSteps _ _).trans (State.settlePause_fillSteps _)
    · split
      · exact ((FillSteps.refl s).goes.trans (State.settlePause_fillSteps _)).trans (State.buildBurst_fillSteps _ _ _)
      · exact (FillSteps.refl s).goes.trans (State.settlePause_fillSteps _)

theorem State.fillWritten_fillSteps (s : State) : FillSteps s s.fillWritten := by
  have hempty : FillSteps s { s with fill := { s.fill with burst := none } } := (FillSteps.refl s).goes
  unfold State.fillWritten
  split
  · exact .refl s
  · dsimp only
    split
    · exact hempty.trans (State.settlePause_fillSteps _)
    · split
      · exact hempty.trans (State.settlePause_fillSteps _)
      · exact hempty.trans (State.jobAdvanced_fillSteps _ _ _ _)

theorem FillSteps.offFill {s t : State} (h : FillSteps s t) : t.offFill = s.offFill := by
  induction h with
  | refl => rfl
  | tail _ hstep ih =>
    cases hstep with
    | report f => rw [State.report_offFill, ih]
    | count c n => exact ih
    | goes h _ => rw [h, ih]

theorem FillSteps.causeTold {s t : State} (h : FillSteps s t) : CauseTold s t := by
  induction h with
  | refl => exact .refl s
  | tail _ hstep ih =>
    cases hstep with
    | report f => exact ih.trans (State.report_causeTold _ f)
    | count c n => exact ih.trans (.of_eq rfl)
    | goes _ hstatus => exact ih.trans (.of_eq (congrArg StatusWriter.write hstatus))

theorem FillSteps.flagsStay {s t : State} (h : FillSteps s t) : FlagsStay s t := by
  induction h with
  | refl => exact .refl s
  | tail _ hstep ih =>
    cases hstep with
    | report f => exact ih.trans (State.report_flagsStay _ f)
    | count c n => exact ih.trans (.of_eq rfl)
    | goes _ hstatus => exact ih.trans (.of_eq (congrArg StatusWriter.flags hstatus))

/-! ### The pause (R149) -/

theorem State.reportSaturations_fill (s : State) (n : Nat) : (s.reportSaturations n).fill = s.fill :=
  congrArg Aside.fill (s.reportSaturations_pathSteps n).aside

/-- A burst is built in the engine's hand. -/
theorem State.buildBurst_fill (s : State) (job : FillJob) (c : Cursor) :
    (s.buildBurst job c).fill =
      { s.fill with
        burst :=
          some
            { addr := planeBase s.fb job.plane + c.row * Config.rowPitch + c.beat * 16
              beats :=
                fillBeats (s.boundSpine job.plane) (job.rects.getD c.rect { x := 0, y := 0, width := 0, height := 0 }) job.holes
                  (job.colour.getD (Quad.replicate 0)) c.row c.beat
                  (runLength (job.rects.getD c.rect { x := 0, y := 0, width := 0, height := 0 }) job.holes c.row 16 c.beat)
              granted := false
              cancelled := false } } := State.reportSaturations_fill _ _

theorem State.completeJob_fill (s : State) (job : FillJob) (rest : List FillJob) :
    (s.completeJob job rest).fill = { s.fill with jobs := rest } := by
  unfold State.completeJob
  dsimp only
  split
  · exact State.report_fill _ _
  · exact State.report_fill _ _
  · exact State.report_fill _ _

/-- A job taken up leaves the pause as it was. -/
theorem State.resumeJob_pause (s : State) :
    s.resumeJob.fill.paused = s.fill.paused ∧ s.resumeJob.fill.pauseAsked = s.fill.pauseAsked := by
  unfold State.resumeJob State.takeUpJob State.startJob
  split
  · exact ⟨rfl, rfl⟩
  · split
    · exact ⟨rfl, rfl⟩
    · split
      · split
        · exact ⟨rfl, rfl⟩
        · split
          · dsimp only
            split
            · rw [State.completeJob_fill]; exact ⟨rfl, rfl⟩
            · rw [State.buildBurst_fill]; exact ⟨rfl, rfl⟩
          · rw [State.buildBurst_fill]; exact ⟨rfl, rfl⟩
      · exact ⟨rfl, rfl⟩

/-! ### The flush of every HELD entry (R91) -/

namespace Collector

theorem setFlush_ids (c : Collector) (id : Nat) (f : FlushState) : (c.setFlush id f).table.map (·.id) = c.table.map (·.id) := by
  unfold setFlush
  rw [List.map_map]
  congr 1
  funext e
  simp only [Function.comp_apply]
  split <;> rfl

theorem leaveOrdinary_ids (c : Collector) (id : Nat) : ((c.leaveOrdinary id).table.map (·.id)).Sublist (c.table.map (·.id)) := by
  unfold leaveOrdinary
  split
  · exact .refl _
  · exact List.filter_sublist.map _

theorem askOrdinary_ids (c : Collector) (id : Nat) : ((c.askOrdinary id).table.map (·.id)).Sublist (c.table.map (·.id)) := by
  unfold askOrdinary
  split
  · exact .refl _
  · split
    · split
      · exact c.leaveOrdinary_ids id
      · exact (c.setFlush_ids id .ordinaryWaiting).symm ▸ .refl _
    all_goals exact .refl _

theorem entryNamed_of_mem {c : Collector} (hids : (c.table.map (·.id)).Nodup) {e : Entry} (he : e ∈ c.table) :
    c.entryNamed e.id = some e := by
  unfold entryNamed
  rw [List.find?_eq_some_iff_getElem]
  obtain ⟨i, hi, rfl⟩ := List.getElem_of_mem he
  refine ⟨by simp, i, hi, rfl, fun j hj => ?_⟩
  have hne := (List.nodup_iff_injective_get.1 hids).ne (a₁ := ⟨j, by simp; omega⟩) (a₂ := ⟨i, by simp; omega⟩) (by simp; omega)
  simpa using hne

/-- An entry still HELD after an ordinary flush was asked was HELD before, and is not the one asked. -/
theorem held_of_askOrdinary {c : Collector} (hids : (c.table.map (·.id)).Nodup) {id : Nat} {e : Entry}
    (he : e ∈ (c.askOrdinary id).table) (hheld : e.flush = .held) : e ∈ c.table ∧ e.id ≠ id := by
  have hother (hsame : e ∈ c.table) (hne : ∀ x, c.entryNamed id = some x → x.flush ≠ .held) : e.id ≠ id := by
    rintro rfl
    exact hne e (entryNamed_of_mem hids hsame) hheld
  unfold askOrdinary at he
  split at he
  · next hnone => exact ⟨he, hother he fun x hx => by rw [hnone] at hx; cases hx⟩
  · next x hx =>
    split at he
    · split at he
      · unfold leaveOrdinary at he
        rw [hx] at he
        obtain ⟨hmem, hne⟩ := List.mem_filter.1 he
        exact ⟨hmem, by simpa using hne⟩
      · obtain ⟨y, hy, rfl⟩ := List.mem_map.1 he
        split at hheld
        · cases hheld
        · next hne => rw [if_neg hne]; exact ⟨hy, hne⟩
    · next hflush => exact ⟨he, hother he fun y hy => by rw [hx] at hy; cases hy; simp [hflush]⟩
    · next hflush => exact ⟨he, hother he fun y hy => by rw [hx] at hy; cases hy; simp [hflush]⟩

theorem held_of_askEach {c : Collector} (hids : (c.table.map (·.id)).Nodup) {ids : List Nat} {e : Entry}
    (he : e ∈ (c.askEach ids).table) (hheld : e.flush = .held) : e ∈ c.table ∧ e.id ∉ ids := by
  induction ids generalizing c with
  | nil => exact ⟨he, List.not_mem_nil⟩
  | cons id rest ih =>
    obtain ⟨hmem, hrest⟩ := ih ((c.askOrdinary_ids id).nodup hids) he
    obtain ⟨hmem', hne⟩ := held_of_askOrdinary hids hmem hheld
    exact ⟨hmem', by simp [hne, hrest]⟩

/-- R91: the flush leaves no HELD entry. -/
theorem flushAll_leaves_none_held {c : Collector} (hids : (c.table.map (·.id)).Nodup) {e : Entry} (he : e ∈ c.flushAll.table) :
    e.flush ≠ .held := by
  intro hheld
  obtain ⟨hmem, hout⟩ := held_of_askEach hids he hheld
  exact hout (List.mem_map.2 ⟨e, List.mem_filter.2 ⟨hmem, by simp [hheld]⟩, rfl⟩)

end Collector

end Sys2Proof.Machine
end

section
/-! Power-on reset, the resets' release, settle, sleep and wake (R12 to R15, R84, R91, R149). -/

namespace Sys2Proof.Machine

/-! ### Power-on reset (R15) -/

theorem State.cutFlight_of_write {s : State} {f : Flight} {beats : List MaskedBeat} (hport : s.port = some f)
    (hpayload : f.payload = .write beats) :
    s.cutFlight = Memory.writeBeats f.addr (beats.take (Config.beatsTaken s.freeCount % (beats.length + 1))) s.mem := by
  simp only [State.cutFlight, hport, hpayload]

theorem State.cutFlight_of_no_write {s : State} (h : ∀ f beats, s.port = some f → f.payload ≠ .write beats) : s.cutFlight = s.mem := by
  unfold State.cutFlight
  split
  · rfl
  · next f hport =>
    split
    · rfl
    · next beats hpayload => exact absurd hpayload (h f beats hport)

/-- Settles O18: the power-on state is a literal; of a write in flight memory has the first beats. -/
theorem powerOnResetSetsTheOtherBlocks : Obligations.PowerOnResetSetsTheOtherBlocks := by
  intro strap1 strap0 s
  refine ⟨s.powerOn strap1 strap0, exec_powerOnReset strap1 strap0 s, rfl, rfl, rfl, rfl, rfl, rfl, rfl, rfl, rfl, rfl, rfl, rfl, rfl, ?_⟩
  show ∃ n, (∀ f beats, s.port = some f → f.payload = .write beats →
      n ≤ beats.length ∧ s.cutFlight = Memory.writeBeats f.addr (beats.take n) s.mem) ∧
    ((∀ f beats, s.port = some f → f.payload ≠ .write beats) → s.cutFlight = s.mem)
  by_cases hwrite : ∃ f beats, s.port = some f ∧ f.payload = .write beats
  · obtain ⟨f, beats, hport, hpayload⟩ := hwrite
    refine ⟨Config.beatsTaken s.freeCount % (beats.length + 1), fun g written hg hwritten => ?_,
      fun h => absurd hpayload (h f beats hport)⟩
    obtain rfl : f = g := Option.some.inj (hport.symm.trans hg)
    obtain rfl : beats = written := Payload.write.inj (hpayload.symm.trans hwritten)
    exact ⟨Nat.lt_succ_iff.1 (Nat.mod_lt _ (Nat.succ_pos _)), State.cutFlight_of_write hport hpayload⟩
  · exact ⟨0, fun f beats hport hpayload => absurd ⟨f, beats, hport, hpayload⟩ hwrite, State.cutFlight_of_no_write⟩

/-! ### Latch edges and releases (R12, R98, R111, R119, R129, R131) -/

/-- R129: a rising latch edge with CLOSED settled before. -/
theorem State.latchRising_of_closed {s : State} (h : s.tracker.settled = some .CLOSED) :
    s.latchRising = State.report { s with tracker := { s.tracker with settled := some .CLOSED, candidate := none } } .latch := by
  unfold State.latchRising
  exact if_pos h

theorem State.latchRising_of_not_closed {s : State} (h : s.tracker.settled ≠ some .CLOSED) :
    s.latchRising =
      ((State.report { s with tracker := { s.tracker with settled := some .CLOSED, candidate := none } } .latch).report
        .posture).reevaluate := by
  unfold State.latchRising
  exact if_neg h

/-- R129: the flags a rising latch edge sets stay to the end of the step. -/
theorem State.latchRising_conclude_flags (s : State) :
    s.latchRising.conclude.flag .latch = true ∧
      (s.tracker.settled ≠ some .CLOSED → s.latchRising.conclude.flag .posture = true) := by
  by_cases h : s.tracker.settled = some .CLOSED
  · refine ⟨State.conclude_flagsStay _ _ ?_, fun hne => absurd h hne⟩
    rw [State.latchRising_of_closed h]
    simp [State.report_flag]
  · rw [State.latchRising_of_not_closed h]
    exact ⟨State.conclude_flagsStay _ _ (State.reevaluate_flagsStay _ _ (by simp [State.report_flag])),
      fun _ => State.conclude_flagsStay _ _ (State.reevaluate_flagsStay _ _ (by simp [State.report_flag]))⟩

/-- The release of power-on reset before it takes a high latch level as an edge. -/
def State.released (s : State) : State :=
  { s with
    pins := { s.pins with powerOnReset := false }
    frame := { s.frame with scanTimer := some 50 }
    front := if s.pins.linkReset then s.front
      else { s.front with link := .settle, settleTimer := some (s.front.settleSetting * 20) }
    tracker := { s.tracker with sampleTimer := some s.tracker.period } }

theorem State.release_eq (s : State) :
    s.release = if s.pins.closedLatch then s.released.latchRising else s.released := by
  have hfront : (if s.pins.linkReset then { s with
        pins := { s.pins with powerOnReset := false }
        frame := { s.frame with scanTimer := some Config.scanStoppedMs }
        tracker := { s.tracker with sampleTimer := some s.tracker.period } }
      else State.enterSettle { s with
        pins := { s.pins with powerOnReset := false }
        frame := { s.frame with scanTimer := some Config.scanStoppedMs }
        tracker := { s.tracker with sampleTimer := some s.tracker.period } }) = s.released := by
    unfold State.released
    split <;> rfl
  unfold State.release
  dsimp only
  rw [hfront]
  rfl

theorem exec_powerOnResetRelease {s : State} (h : s.pins.powerOnReset = true) :
    exec .powerOnResetRelease s = .next s.release.conclude := exec_of_concluded (if_pos h)

theorem exec_linkResetRelease {s : State} (h : s.pins.linkReset = true) (hpower : s.pins.powerOnReset = false) :
    exec .linkResetRelease s = .next (State.enterSettle { s with pins := { s.pins with linkReset := false } }).conclude := by
  refine exec_of_concluded ?_
  simp only [act, actLinkResetRelease, h, hpower]
  rfl

/-- Settles O19: the release is `State.released`, with a latch edge where the latch level is high. -/
theorem resetReleasesSettleTheLink : Obligations.ResetReleasesSettleTheLink := by
  refine ⟨fun s hpower => ?power, fun s hline => ?link⟩
  case power =>
    refine ⟨_, exec_powerOnResetRelease hpower, ?_⟩
    have hkept : s.release.conclude.kept = s.release.kept := State.conclude_kept _
    cases hlatch : s.pins.closedLatch with
    | false =>
      have hrelease : s.release = s.released := by rw [State.release_eq, hlatch]; rfl
      rw [hrelease] at hkept ⊢
      refine ⟨congrArg Kept.pins hkept, congrArg Kept.frame hkept, congrArg Kept.front hkept, fun _ => congrArg Kept.tracker hkept, nofun,
        fun _ => rfl, nofun, nofun⟩
    | true =>
      have hrelease : s.release = s.released.latchRising := by rw [State.release_eq, hlatch]; rfl
      rw [hrelease] at hkept ⊢
      rw [State.latchRising_kept] at hkept
      obtain ⟨hlatchFlag, hposture⟩ := s.released.latchRising_conclude_flags
      refine ⟨congrArg Kept.pins hkept, congrArg Kept.frame hkept, congrArg Kept.front hkept, nofun,
        fun _ => ⟨congrArg Kept.tracker hkept, hlatchFlag, hposture⟩, nofun, fun _ hclosed => ?_, fun _ hclosed => ?_⟩
      · rw [State.latchRising_of_closed (s := s.released) hclosed]; rfl
      · rw [State.latchRising_of_not_closed (s := s.released) hclosed]; rfl
  case link =>
    cases hpower : s.pins.powerOnReset with
    | true =>
      refine ⟨{ s with pins := { s.pins with linkReset := false } }, exec_of_still ?_, rfl, nofun, fun _ => rfl⟩
      simp only [act, actLinkResetRelease, hline, hpower]
      rfl
    | false =>
      have hkept : (State.enterSettle { s with pins := { s.pins with linkReset := false } }).conclude.kept = _ := State.conclude_kept _
      exact ⟨_, exec_linkResetRelease hline hpower, congrArg Kept.pins hkept, fun _ => congrArg Kept.front hkept, nofun⟩

/-! ### What the end of a step leaves of the pause and the hand -/

theorem State.settleSwaps_fill (n : Nat) (s : State) :
    (State.settleSwaps n s).fill.burst = s.fill.burst ∧ (State.settleSwaps n s).fill.paused = s.fill.paused ∧
      (State.settleSwaps n s).fill.pauseAsked = s.fill.pauseAsked := by
  have h := (State.settleSwaps_steps n s).beside
  exact ⟨congrArg Beside.burst h, congrArg Beside.paused h, congrArg Beside.pauseAsked h⟩

theorem State.retryInsert_fill (s : State) : s.retryInsert.fill = s.fill := congrArg Aside.fill s.retryInsert_aside

theorem State.choicePoint_pause (s : State) :
    s.choicePoint.fill.paused = s.fill.paused ∧ s.choicePoint.fill.pauseAsked = s.fill.pauseAsked := by
  have h := s.choicePoint_offGrant
  exact ⟨congrArg OffGrant.paused h, congrArg OffGrant.pauseAsked h⟩

theorem State.grant_burst_none {s : State} (h : s.fill.burst = none) (x : Source) : (s.grant x).fill.burst = none := by
  cases x
  case record => exact h
  case fill => simp only [State.grant, State.grantFill, h]
  all_goals
    simp only [State.grant, State.grantFetch, State.grantPriority, State.grantPath, State.grantOrdinary]
    split <;> exact h

theorem State.choicePoint_burst_none {s : State} (h : s.fill.burst = none) : s.choicePoint.fill.burst = none := by
  unfold State.choicePoint
  split
  · exact h
  · unfold State.grantPick
    split
    · exact h
    · exact State.grant_burst_none h _

theorem State.conclude_pause (s : State) :
    s.conclude.fill.paused = s.fill.paused ∧ s.conclude.fill.pauseAsked = s.fill.pauseAsked := by
  obtain ⟨-, hpaused, hasked⟩ := State.settleSwaps_fill 2 s
  obtain ⟨hpaused', hasked'⟩ := (State.settleSwaps 2 s).retryInsert.choicePoint_pause
  rw [State.conclude, State.retryInsert_fill, hpaused', hasked', State.retryInsert_fill, hpaused, hasked]
  exact ⟨rfl, rfl⟩

theorem State.conclude_burst_none {s : State} (h : s.fill.burst = none) : s.conclude.fill.burst = none := by
  obtain ⟨hburst, -, -⟩ := State.settleSwaps_fill 2 s
  rw [State.conclude, State.retryInsert_fill]
  refine State.choicePoint_burst_none ?_
  rw [State.retryInsert_fill, hburst, h]

/-! ### A record write that stands is granted -/

theorem State.choicePoint_of_record {s : State} (hport : s.port = none) (hload : s.layouts.load = none)
    (hwrite : s.status.write = .offered) : s.choicePoint = s.grantRecord := by
  rw [State.choicePoint_of_port_none hport]
  have hpick : s.pick s.stands = some .record := by
    simp [State.pick, State.pickControl, State.stands, State.fetchStands, State.recordStands, hload, hwrite]
  rw [hpick]
  rfl

/-- R152, R153: with no chain fetch standing, an IDLE port takes a record write that stands before the step ends. -/
theorem State.conclude_of_record {s : State} (hport : s.port = none) (hload : s.layouts.load = none)
    (hwrite : s.status.write = .offered) :
    ∃ beats, s.conclude.port = some { origin := .record, addr := s.fb + 0x4000100, payload := .write beats, moved := 0, wanted := true } ∧
      beats.length = 8 := by
  let ready := (State.settleSwaps 2 s).retryInsert
  have hbeside := (State.settleSwaps_steps 2 s).beside
  have haside := (State.settleSwaps 2 s).retryInsert_aside
  have hwrite' : ready.status.write = .offered := by
    have htold := (State.settleSwaps_steps 2 s).causeTold.trans (State.settleSwaps 2 s).retryInsert_pathSteps.causeTold
    exact (htold (by simp [hwrite]) (by simp [hwrite])).trans hwrite
  have hport' : ready.port = none := ((congrArg Aside.port haside).trans (congrArg Beside.port hbeside)).trans hport
  have hload' : ready.layouts.load = none := by
    rw [show ready.layouts = s.layouts from (congrArg Aside.layouts haside).trans (congrArg Beside.layouts hbeside), hload]
  have hfront : ready.front = s.front :=
    (congrArg Kept.front (State.retryInsert_kept _)).trans (congrArg Kept.front (State.settleSwaps_kept 2 s))
  have hgranted : s.conclude = ready.grantRecord.retryInsert := by
    rw [State.conclude, State.choicePoint_of_record hport' hload' hwrite']
  refine ⟨ready.imageBeats, ?_, by simp [State.imageBeats, beatsOf]⟩
  rw [hgranted, State.retryInsert_port, show s.fb = ready.fb by simp only [State.fb, hfront]]
  rfl

/-! ### Settle, sleep and wake -/

theorem State.offerRecord_active {s : State} (h : s.front.link.active = true) :
    s.offerRecord = { s.setWrite .offered with fetchFirst := s.fetchStands } := by
  unfold State.offerRecord State.offerOrDefer
  rw [h]
  rfl

/-- R12: the link out of SETTLE can take a record write that was due. -/
theorem State.leaveSettle_write {s : State} (h : s.status.write = .due) : s.leaveSettle.status.write = .offered := by
  unfold State.leaveSettle State.offerDue
  rw [h]
  dsimp only
  rw [State.offerRecord_active]
  · rfl
  · dsimp only
    split <;> rfl

theorem State.offerDue_eq (s : State) : ∃ w b, s.offerDue = { s with status := { s.status with write := w }, fetchFirst := b } := by
  unfold State.offerDue State.offerRecord
  split
  · split
    · exact ⟨_, _, rfl⟩
    · exact ⟨_, s.fetchFirst, rfl⟩
  all_goals exact ⟨s.status.write, s.fetchFirst, rfl⟩

theorem State.leaveSettle_eq (s : State) :
    ∃ w b, s.leaveSettle =
      { s with
        front := { s.front with link := if s.pins.sleepRequest then .sleepDrain else .awake, settleTimer := none }
        collector := { s.collector with ageTimer := some s.collector.ageInterval }
        status := { s.status with write := w }
        fetchFirst := b } := State.offerDue_eq _

/-- R13: what entering SLEEP-DRAIN leaves. -/
theorem State.enterSleepDrain_eq (s : State) :
    s.enterSleepDrain =
      { s with
        front := { s.front with link := .sleepDrain }
        collector := s.collector.askEach ((s.collector.table.filter fun e => decide (e.flush = .held)).map (·.id))
        fill :=
          match s.fill.burst with
          | none => { s.fill with paused := true, pauseAsked := false }
          | some _ => { s.fill with pauseAsked := true } } := by
  unfold State.enterSleepDrain State.askPause
  dsimp only [State.setLink]
  split
  · next h => rw [h]; rfl
  · next b h => rw [h]; rfl

theorem Collector.flushAll_ageing (c : Collector) : c.flushAll.ageing = c.ageing := Collector.askEach_ageing _ _

theorem State.endPause_pause (s : State) : s.endPause.fill.paused = false ∧ s.endPause.fill.pauseAsked = false :=
  State.resumeJob_pause _

/-- What the end of SETTLE leaves of the fields a step's end keeps. -/
theorem State.settleEnd_kept (s : State) :
    s.settleEnd.kept =
      ({ s with
        front := { s.front with link := if s.pins.sleepRequest then .sleepDrain else .awake, settleTimer := none }
        collector := { s.collector with ageTimer := some s.collector.ageInterval } } : State).kept := by
  obtain ⟨w, b, hleave⟩ := s.leaveSettle_eq
  rw [State.settleEnd_eq]
  split
  · next hsleep =>
    rw [State.enterSleepDrain_eq, hleave, if_pos hsleep]
    exact State.kept_collector _ _ (Collector.flushAll_ageing _)
  · next hawake =>
    rw [show s.leaveSettle.endPause.kept = s.leaveSettle.kept from congrArg OffFill.kept (State.endPause_fillSteps _).offFill, hleave,
      if_neg hawake]
    rfl

theorem State.settleEnd_write {s : State} (h : s.status.write = .due) : s.settleEnd.status.write = .offered := by
  have hleave := State.leaveSettle_write h
  rw [State.settleEnd_eq]
  split
  · rw [State.enterSleepDrain_eq]; exact hleave
  · exact ((State.endPause_fillSteps _).causeTold (by simp [hleave]) (by simp [hleave])).trans hleave

theorem State.settleEnd_port_load (s : State) : s.settleEnd.port = s.port ∧ s.settleEnd.layouts = s.layouts := by
  obtain ⟨w, b, hleave⟩ := s.leaveSettle_eq
  rw [State.settleEnd_eq]
  split
  · rw [State.enterSleepDrain_eq, hleave]; exact ⟨rfl, rfl⟩
  · have hoff := (State.endPause_fillSteps s.leaveSettle).offFill
    rw [show s.leaveSettle.endPause.port = s.leaveSettle.port from congrArg OffFill.port hoff,
      show s.leaveSettle.endPause.layouts = s.leaveSettle.layouts from congrArg OffFill.layouts hoff, hleave]
    exact ⟨rfl, rfl⟩

theorem State.drained_iff {s : State} :
    s.drained = true ↔
      s.inbound = [] ∧ s.router = none ∧ s.outQueue = [] ∧ s.responses = [] ∧ s.collector.table = [] ∧ s.collector.ordinary = [] ∧
        s.collector.priority = [] ∧ s.fill.burst = none ∧ s.layouts.load = none ∧ s.status.write = .quiet ∧ s.port = none := by
  simp [State.drained, Collector.isEmpty, and_assoc]

/-- Settles O21: the link leaves SETTLE by the sleep request level, and SLEEP-DRAIN for ASLEEP once nothing is left to drain. -/
theorem settleEndWakesAndDrainSleeps : Obligations.SettleEndWakesAndDrainSleeps := by
  refine ⟨fun s hlink htimer => ?settle, fun s hlink => ⟨fun hdrained => ?drained, fun hnot => ?waits⟩⟩
  case settle =>
    have hkept : s.settleEnd.conclude.kept = _ := (State.conclude_kept _).trans s.settleEnd_kept
    obtain ⟨hpaused, hasked⟩ := s.settleEnd.conclude_pause
    refine ⟨_, exec_of_concluded (if_pos ⟨hlink, htimer⟩), congrArg Kept.front hkept, congrArg Kept.ageTimer hkept, fun hawake => ?_,
      fun hsleep hburst => ?_, fun hdue hport hload => ?_, congrArg Kept.pins hkept, congrArg Kept.inbound hkept,
      congrArg Kept.tracker hkept, congrArg Kept.mem hkept⟩
    · rw [hpaused, hasked, State.settleEnd_eq, if_neg (by simp [hawake])]
      exact State.endPause_pause _
    · obtain ⟨w, b, hleave⟩ := s.leaveSettle_eq
      have hhand : s.settleEnd.fill = { s.fill with paused := true, pauseAsked := false } := by
        rw [State.settleEnd_eq, if_pos hsleep, State.enterSleepDrain_eq, hleave]
        simp only [hburst]
      exact ⟨by rw [hpaused, hhand], State.conclude_burst_none (by rw [hhand, hburst])⟩
    · obtain ⟨hsame, hlayouts⟩ := s.settleEnd_port_load
      have hfb : s.settleEnd.fb = s.fb := by
        have hown : s.settleEnd.own = s.own := s.settleEnd_own
        simp only [State.fb, show s.settleEnd.front.strap1 = s.front.strap1 from congrArg Own.strap1 hown,
          show s.settleEnd.front.strap0 = s.front.strap0 from congrArg Own.strap0 hown]
      rw [← hfb]
      exact State.conclude_of_record (hsame.trans hport) (by rw [hlayouts, hload]) (State.settleEnd_write hdue)
  case drained =>
    have hkept : State.kept (State.conclude { s.setLink .asleep with collector := { s.collector with ageTimer := none } }) = _ :=
      State.conclude_kept _
    have hfront : (State.conclude { s.setLink .asleep with collector := { s.collector with ageTimer := none } }).front =
        { s.front with link := .asleep } := congrArg Kept.front hkept
    exact ⟨_, exec_of_concluded (if_pos ⟨hlink, State.drained_iff.2 hdrained⟩), hfront,
      decide_eq_true (congrArg FrontEnd.link hfront), State.ready_eq_false (by rw [hfront]; nofun), congrArg Kept.ageTimer hkept,
      congrArg Kept.tracker hkept, congrArg Kept.mem hkept⟩
  case waits => exact exec_of_still (if_neg fun h => hnot (State.drained_iff.1 h.2))

/-- Settles O22: of a sleep request edge the link state decides; the flush of every HELD entry leaves none. -/
theorem sleepRequestEdges : Obligations.SleepRequestEdges := by
  refine ⟨fun s hline => ⟨fun hawake => ?rise, fun hnot => ?still⟩, fun s hline => ?fall,
    fun c hids e he => Collector.flushAll_leaves_none_held hids he⟩
  case rise =>
    have hact : act .sleepRequestRise s =
        .concluded (State.enterSleepDrain { s with pins := { s.pins with sleepRequest := true } }) := by
      simp only [act, actSleepRequestRise, hline, hawake]
      rfl
    rw [exec_of_concluded hact]
    exact congrArg (fun u : State => Host.Outcome.next u.conclude) (State.enterSleepDrain_eq _)
  case still =>
    refine exec_of_still ?_
    simp only [act, actSleepRequestRise, hline, if_neg hnot]
    rfl
  case fall =>
    let s' : State := { s with pins := { s.pins with sleepRequest := false } }
    have hact : act .sleepRequestFall s =
        match s.front.link with
        | .sleepDrain => .concluded (s'.setLink .awake).endPause
        | .asleep => .concluded s'.enterSettle
        | .resetHold => .still s'
        | .settle => .still s'
        | .awake => .still s' := if_pos hline
    match hlink : s.front.link with
    | .sleepDrain =>
      rw [hlink] at hact
      have hkept : (s'.setLink .awake).endPause.conclude.kept = (s'.setLink .awake).kept :=
        (State.conclude_kept _).trans (congrArg OffFill.kept (State.endPause_fillSteps _).offFill)
      obtain ⟨hpaused, hasked⟩ := (s'.setLink .awake).endPause.conclude_pause
      obtain ⟨hfree, hnone⟩ := (s'.setLink .awake).endPause_pause
      exact ⟨_, exec_of_concluded hact, congrArg Kept.pins hkept,
        fun _ => ⟨congrArg Kept.front hkept, hpaused.trans hfree, hasked.trans hnone⟩, nofun, fun h => absurd rfl h⟩
    | .asleep =>
      rw [hlink] at hact
      have hkept : s'.enterSettle.conclude.kept = s'.enterSettle.kept := State.conclude_kept _
      have hfront : s'.enterSettle.conclude.front = s'.enterSettle.front := congrArg Kept.front hkept
      exact ⟨_, exec_of_concluded hact, congrArg Kept.pins hkept, nofun,
        fun _ => ⟨hfront, State.sleepAcknowledge_eq_false (by rw [hfront]; nofun)⟩, fun _ h => absurd rfl h⟩
    | .resetHold => rw [hlink] at hact; exact ⟨s', exec_of_still hact, rfl, nofun, nofun, fun _ _ => rfl⟩
    | .settle => rw [hlink] at hact; exact ⟨s', exec_of_still hact, rfl, nofun, nofun, fun _ _ => rfl⟩
    | .awake => rw [hlink] at hact; exact ⟨s', exec_of_still hact, rfl, nofun, nofun, fun _ _ => rfl⟩

end Sys2Proof.Machine
end

section
/-! The frame timing and the swap (R97, R98, R105 to R108), and the re-evaluation of the posture (R111 to R113, R144). -/

namespace Sys2Proof.Machine

/-! ### What the end of a step leaves of flags, counters and planes -/

theorem State.choicePoint_counters (s : State) : s.choicePoint.status.counters = s.status.counters :=
  congrArg OffGrant.counters s.choicePoint_offGrant

/-- The counters that neither the request path nor the swap raises. -/
structure SideCounters (s t : State) : Prop where
  clampedSamples : t.status.counters.clampedSamples = s.status.counters.clampedSamples
  lateSwaps : t.status.counters.lateSwaps = s.status.counters.lateSwaps
  abandonedSwaps : t.status.counters.abandonedSwaps = s.status.counters.abandonedSwaps
  rejectedRecords : t.status.counters.rejectedRecords = s.status.counters.rejectedRecords

theorem SideCounters.of_eq {s t : State} (h : t.status.counters = s.status.counters) : SideCounters s t := by
  constructor <;> rw [h]

theorem SideCounters.trans {s t u : State} (h : SideCounters s t) (k : SideCounters t u) : SideCounters s u :=
  ⟨k.clampedSamples.trans h.clampedSamples, k.lateSwaps.trans h.lateSwaps, k.abandonedSwaps.trans h.abandonedSwaps,
    k.rejectedRecords.trans h.rejectedRecords⟩

theorem State.reevaluate_counters (s : State) : s.reevaluate.status.counters = s.status.counters :=
  congrArg Beside.counters s.reevaluate_steps.beside

theorem State.retryInsert_sideCounters (s : State) : SideCounters s s.retryInsert := by
  obtain ⟨hclamped, hlate, habandoned, hrejected⟩ := s.retryInsert_pathSteps.counters
  exact ⟨hclamped, hlate, habandoned, hrejected⟩

theorem State.conclude_sideCounters (s : State) : SideCounters s s.conclude := by
  have hswaps : SideCounters s (State.settleSwaps 2 s) := .of_eq (congrArg Beside.counters (State.settleSwaps_steps 2 s).beside)
  exact ((hswaps.trans (State.retryInsert_sideCounters _)).trans (.of_eq (State.choicePoint_counters _))).trans
    (State.retryInsert_sideCounters _)

theorem State.conclude_jobs {s : State} (h : s.swapDue = none) : s.conclude.fill.jobs = s.fill.jobs := by
  rw [State.conclude_of_no_swap h, State.retryInsert_fill,
    show s.retryInsert.choicePoint.fill.jobs = s.retryInsert.fill.jobs from congrArg OffGrant.jobs (State.choicePoint_offGrant _),
    State.retryInsert_fill]

/-! ### Frame timing (R97, R98, R105, R106) -/

theorem State.swapDue_of_moved {s : State} {r : ArmRecord} (harmed : s.planes.switch = .armed r) (hstopped : s.frame.scanStopped = true)
    (hr : r.selectMoved = true ∨ s.drainComplete r = true) : s.swapDue = some r := by
  obtain hmoved | hdrain := hr
  · exact State.swapDue_eq_some_iff.2 ⟨harmed, hstopped, .inl hmoved⟩
  · exact State.swapDue_eq_some_iff.2 ⟨harmed, hstopped, .inr (State.drainComplete_iff.1 hdrain)⟩

theorem State.swapDue_of_waiting {s : State} {r : ArmRecord} (harmed : s.planes.switch = .armed r) (hmoved : r.selectMoved = false)
    (hdrain : s.drainComplete r = false) : s.swapDue = none := by
  simp [State.swapDue, harmed, hmoved, hdrain]

theorem State.blankStart_of_drained {s : State} {r : ArmRecord} (harmed : s.planes.switch = .armed r) (hmoved : r.selectMoved = false)
    (hdrain : s.drainComplete r = true) : s.blankStart = s.moveSelect r := by
  simp [State.blankStart, harmed, hmoved, hdrain]

theorem State.blankStart_of_late {s : State} {r : ArmRecord} (harmed : s.planes.switch = .armed r) (hmoved : r.selectMoved = false)
    (hdrain : s.drainComplete r = false) : s.blankStart = (s.report .swapLate).count .lateSwaps 1 := by
  simp [State.blankStart, harmed, hmoved, hdrain]

theorem State.blankStart_of_rest {s : State} (h : s.planes.switch = .steady ∨ ∃ r, s.planes.switch = .armed r ∧ r.selectMoved = true) :
    s.blankStart = s := by
  unfold State.blankStart
  obtain hsteady | ⟨r, harmed, hmoved⟩ := h
  · rw [hsteady]
  · rw [harmed]
    exact if_pos hmoved

theorem State.blankStart_kept (s : State) : s.blankStart.kept = s.kept := by
  unfold State.blankStart
  split
  · rfl
  · split
    · rfl
    · split
      · rfl
      · exact (State.count_kept _ _ _).trans (s.report_kept _)

/-- A frame start counted. -/
def State.frameCounted (s : State) : State :=
  { s with
    pins := { s.pins with frameSync := true }
    frame := { counter := s.frame.counter + 1, scanStopped := false, scanTimer := some 50 } }

theorem exec_frameStart {s : State} (hsync : s.pins.frameSync = false) (hpower : s.pins.powerOnReset = false) :
    exec .frameStart s = .next (State.frameStart { s with pins := { s.pins with frameSync := true } }).conclude := by
  refine exec_of_concluded ?_
  simp only [act, actFrameStart, hsync, hpower]
  rfl

theorem State.frameStart_of_moved {s : State} {r : ArmRecord} (harmed : s.planes.switch = .armed r) (hmoved : r.selectMoved = true) :
    State.frameStart { s with pins := { s.pins with frameSync := true } } = s.frameCounted.finishSwap r := by
  simp [State.frameStart, harmed, hmoved]
  rfl

theorem State.frameStart_of_rest {s : State} (h : s.planes.switch = .steady ∨ ∃ r, s.planes.switch = .armed r ∧ r.selectMoved = false) :
    State.frameStart { s with pins := { s.pins with frameSync := true } } = s.frameCounted := by
  obtain hsteady | ⟨r, harmed, hmoved⟩ := h
  · simp [State.frameStart, hsteady]
    rfl
  · simp [State.frameStart, harmed, hmoved]
    rfl

theorem State.frameStart_kept (s : State) :
    (State.frameStart { s with pins := { s.pins with frameSync := true } }).kept = s.frameCounted.kept := by
  match hswitch : s.planes.switch with
  | .steady => rw [State.frameStart_of_rest (.inl hswitch)]
  | .armed r =>
    match hmoved : r.selectMoved with
    | true => rw [State.frameStart_of_moved hswitch hmoved, State.finishSwap_kept]
    | false => rw [State.frameStart_of_rest (.inr ⟨r, hswitch, hmoved⟩)]

/-- While frames come no swap is due at the end of the step. -/
theorem State.conclude_planes_of_scanning {s : State} (h : s.frame.scanStopped = false) : s.conclude.planes = s.planes :=
  State.conclude_planes (State.swapDue_of_scanning h)

/-- Settles O36: a blank start moves the select line or finds the drain late; a frame start carries a moved swap through. -/
theorem frameTimingCarriesTheSwap : Obligations.FrameTimingCarriesTheSwap := by
  refine ⟨fun s hsync hpower => ?blank, fun s hsync hpower => ?frame⟩
  case blank =>
    let s' : State := { s with pins := { s.pins with frameSync := false } }
    have hexec : exec .blankStart s = .next s'.blankStart.conclude :=
      exec_of_concluded ((if_pos hsync).trans (if_neg (by simp [hpower])))
    have hkept : s'.blankStart.conclude.kept = s'.kept := (State.conclude_kept _).trans s'.blankStart_kept
    refine ⟨_, hexec, congrArg Kept.pins hkept, congrArg Kept.frame hkept, fun r harmed hmoved hdrain hscan => ?_,
      fun r harmed hmoved hdrain => ?_, fun hrest => ?_⟩
    · rw [State.blankStart_of_drained (s := s') harmed hmoved hdrain]
      exact State.conclude_planes_of_scanning hscan
    · have hlate := State.blankStart_of_late (s := s') harmed hmoved hdrain
      have hplanes : s'.blankStart.planes = s.planes := by
        rw [hlate]
        exact s'.report_planes _
      refine ⟨(State.conclude_planes ?_).trans hplanes, State.conclude_flagsStay _ _ ?_, (State.conclude_sideCounters _).lateSwaps.trans ?_⟩
      · refine State.swapDue_of_waiting (r := r) (by rw [hplanes, harmed]) hmoved ?_
        simpa only [State.drainComplete, hplanes] using hdrain
      · rw [hlate]
        exact (State.report_flag s' _ _).trans (by simp)
      · rw [hlate]
        exact congrArg (fun c : Counters => raise c.lateSwaps 1) (s'.report_counters _)
    · obtain hsteady | ⟨r, harmed, hmoved, hscan⟩ := hrest
      · rw [State.blankStart_of_rest (s := s') (.inl hsteady)]
        exact State.conclude_planes (State.swapDue_of_steady hsteady)
      · rw [State.blankStart_of_rest (s := s') (.inr ⟨r, harmed, hmoved⟩)]
        exact State.conclude_planes_of_scanning hscan
  case frame =>
    have hkept := (State.conclude_kept _).trans s.frameStart_kept
    refine ⟨_, exec_frameStart hsync hpower, congrArg Kept.pins hkept, congrArg Kept.frame hkept, fun r harmed hmoved => ?_,
      fun hrest => ?_,
      fun r harmed hmoved => by rw [State.frameStart_of_moved harmed hmoved]; rfl,
      fun hrest => by rw [State.frameStart_of_rest hrest]; rfl⟩
    · rw [State.frameStart_of_moved harmed hmoved] at hkept ⊢
      have hscan : (s.frameCounted.finishSwap r).frame.scanStopped = false :=
        congrArg (fun k : Kept => k.frame.scanStopped) (State.finishSwap_kept s.frameCounted r)
      obtain ⟨w, hplanes⟩ := s.frameCounted.finishSwap_planes r
      refine ⟨?_, ?_, State.conclude_finishSwap_flag _ r, fun p => ?_⟩
      · rw [State.conclude_planes_of_scanning hscan, hplanes]
      · rw [State.conclude_planes_of_scanning hscan, hplanes]
      · cases p
        · exact congrArg Kept.bindingA hkept
        · exact congrArg Kept.bindingB hkept
    · rw [State.frameStart_of_rest hrest]
      exact State.conclude_planes_of_scanning rfl

/-! ### Scan stopped and the swap limit (R107, R108) -/

theorem State.abandon_eq (s : State) :
    s.abandon =
      State.reevaluate
        (State.count (State.report { s with planes := { s.planes with switch := .steady } } .swapAbandoned) .abandonedSwaps 1) := rfl

/-- Settles O37: the swap due at the expiry is the first that the end of the step settles; abandonment counts and re-evaluates. -/
theorem scanStopAndSwapLimitEndTheSwap : Obligations.ScanStopAndSwapLimitEndTheSwap := by
  refine ⟨fun s htimer => ?stop, fun s r harmed => ⟨fun hmoved => ?moved, fun hmoved => ?limit⟩⟩
  case stop =>
    let stopped : State := { s with frame := { s.frame with scanStopped := true, scanTimer := none } }
    have hkept : stopped.conclude.kept = stopped.kept := State.conclude_kept _
    have hsettle (r : ArmRecord) (harmed : s.planes.switch = .armed r) (hr : r.selectMoved = true ∨ s.drainComplete r = true) :
        State.settleSwaps 2 stopped = State.settleSwaps 1 (stopped.finishSwap r) :=
      State.settleSwaps_succ_some (State.swapDue_of_moved (s := stopped) harmed rfl hr) 1
    have hplanes (r : ArmRecord) (harmed : s.planes.switch = .armed r) (hr : r.selectMoved = true ∨ s.drainComplete r = true)
        (hunknown : s.tracker.settled = none) :
        stopped.conclude.planes = { s.planes with scanned := r.target, select := r.target, switch := .steady } := by
      have hdone : stopped.finishSwap r = stopped.swapDone r := by
        refine State.reevaluate_of_unknown ?_
        rw [show (stopped.swapDone r).tracker = s.tracker from State.report_tracker _ _, hunknown]
      have hsteady : (stopped.swapDone r).swapDue = none := State.swapDue_of_steady (by rw [State.swapDone_planes])
      rw [State.conclude, hsettle r harmed hr, hdone, State.settleSwaps_succ_none hsteady, State.retryInsert_planes,
        State.choicePoint_planes, State.retryInsert_planes, State.swapDone_planes]
    refine ⟨stopped.conclude, exec_of_concluded (if_pos htimer), congrArg Kept.frame hkept, fun r harmed hr => ⟨?_, fun hunknown => ?_⟩,
      fun r harmed hmoved hdrain => State.conclude_planes (State.swapDue_of_waiting (s := stopped) harmed hmoved hdrain),
      fun hsteady => State.conclude_planes (State.swapDue_of_steady (s := stopped) hsteady), rfl, fun r harmed hr => ?_⟩
    · rw [State.conclude, hsettle r harmed hr]
      have hflag : (stopped.finishSwap r).flag .swapDone = true := State.reevaluate_flagsStay _ _ (State.swapDone_flag stopped r)
      refine State.retryInsert_flagsStay _ _ ?_
      rw [State.flag, State.choicePoint_flags]
      exact State.retryInsert_flagsStay _ _ (State.settleSwaps_flagsStay 1 _ _ hflag)
    · rw [hplanes r harmed hr hunknown]
      exact ⟨rfl, rfl, rfl⟩
    · rw [State.conclude, hsettle r harmed hr]
  case moved =>
    refine exec_of_still ?_
    simp only [act, actSwapLimit, harmed, hmoved]
    rfl
  case limit =>
    have hact : act .swapLimit s = .concluded s.abandon := by
      simp only [act, actSwapLimit, harmed, hmoved]
      rfl
    let withdrawn : State := { s with planes := { s.planes with switch := .steady } }
    let counted : State := (withdrawn.report .swapAbandoned).count .abandonedSwaps 1
    have hflag : counted.flag .swapAbandoned = true := (State.report_flag withdrawn _ _).trans (by simp)
    refine ⟨_, exec_of_concluded hact, State.conclude_flagsStay _ _ (State.reevaluate_flagsStay _ _ hflag), ?_, fun hunknown => ?_, rfl⟩
    · refine ((State.conclude_sideCounters _).abandonedSwaps.trans (congrArg Counters.abandonedSwaps counted.reevaluate_counters)).trans ?_
      exact congrArg (fun c : Counters => raise c.abandonedSwaps 1) (withdrawn.report_counters _)
    · have hplanes : counted.planes = withdrawn.planes := withdrawn.report_planes _
      have hsteady : counted.swapDue = none := State.swapDue_of_steady (by rw [hplanes])
      have hstays : s.abandon = counted := by
        refine State.reevaluate_of_unknown (s := counted) ?_
        rw [show counted.tracker = s.tracker from withdrawn.report_tracker _, hunknown]
      rw [hstays]
      exact ⟨(State.conclude_planes hsteady).trans hplanes,
        (State.conclude_jobs hsteady).trans (congrArg FillEngine.jobs (withdrawn.report_fill _))⟩

/-! ### Re-evaluation (R111 to R113, R144) -/

theorem State.service_eq_scanned_iff {s : State} {p : Posture} :
    s.service p = .scanned ↔ ∃ i, s.tracker.map.slotFor p = some i ∧ (s.planes.entry s.planes.scanned).binding = some i := by
  unfold State.service
  split
  · next h => simp [h]
  · next i h =>
    simp only [h, Option.some.injEq, exists_eq_left']
    split
    · next hb => simp [hb]
    · next hb =>
      split
      · simp [hb]
      · simp [hb]

theorem State.service_eq_idle_iff {s : State} {p : Posture} :
    s.service p = .idle ↔
      ¬(∃ i, s.tracker.map.slotFor p = some i ∧ (s.planes.entry s.planes.scanned).binding = some i) ∧
        ∃ i, s.tracker.map.slotFor p = some i ∧ (s.planes.entry s.planes.idle).binding = some i := by
  unfold State.service
  split
  · next h => simp [h]
  · next i h =>
    simp only [h, Option.some.injEq, exists_eq_left']
    split
    · next hb => simp [hb]
    · next hb =>
      split
      · next hi => simp [hb, hi]
      · next hi => simp [hi]

theorem State.service_eq_none_iff {s : State} {p : Posture} :
    s.service p = .none ↔
      ¬(∃ i, s.tracker.map.slotFor p = some i ∧ (s.planes.entry s.planes.scanned).binding = some i) ∧
        ¬∃ i, s.tracker.map.slotFor p = some i ∧ (s.planes.entry s.planes.idle).binding = some i := by
  rw [← State.service_eq_scanned_iff (s := s) (p := p)]
  by_cases hidle : s.service p = .idle
  · have := State.service_eq_idle_iff.1 hidle
    simp [hidle, this.2]
  · by_cases hscanned : s.service p = .scanned
    · simp [hscanned]
    · have hnone : s.service p = .none := by
        cases h : s.service p with
        | scanned => exact absurd h hscanned
        | idle => exact absurd h hidle
        | none => rfl
      have hnot := fun hi => hidle (State.service_eq_idle_iff.2 ⟨fun hs => hscanned (State.service_eq_scanned_iff.2 hs), hi⟩)
      simp only [hnone]
      exact ⟨fun _ => ⟨nofun, hnot⟩, fun _ => trivial⟩

/-- The guard of the SCANNED plane's layout names the posture. -/
def State.guardAsked (s : State) (p : Posture) : Prop :=
  ∃ l g, s.boundLayout s.planes.scanned = some l ∧ l.guard = some g ∧
    ((p = .CLOSED ∧ g.onClosed = true) ∨ (p = .PARTIAL ∧ g.onPartial = true) ∨ (p = .OPEN ∧ g.onOpen = true))

theorem Guard.names_iff {g : Guard} {p : Posture} :
    g.names p = true ↔
      (p = .CLOSED ∧ g.onClosed = true) ∨ (p = .PARTIAL ∧ g.onPartial = true) ∨ (p = .OPEN ∧ g.onOpen = true) := by
  cases p <;> simp [Guard.names]

theorem State.guardFor_of_asked {s : State} {p : Posture} (h : s.guardAsked p) : s.guardFor p = s.requestGuard s.planes.scanned := by
  obtain ⟨l, g, hl, hg, hnames⟩ := h
  simp only [State.guardFor, hl, hg, Guard.names_iff.2 hnames]
  rfl

theorem State.guardFor_of_not_asked {s : State} {p : Posture} (h : ¬s.guardAsked p) : s.guardFor p = s := by
  unfold State.guardFor
  split
  · rfl
  · next l hl =>
    split
    · rfl
    · next g hg => exact if_neg fun hnames => h ⟨l, g, hl, hg, Guard.names_iff.1 hnames⟩

theorem State.unserved_flag_stays (s : State) (p : Posture) : (s.unserved p).flag .unserved = true :=
  State.guardFor_flagsStay _ p _ (by simp [State.report_flag])

/-- Settles O38: each clause is the branch of the table its hypotheses choose. -/
theorem reevaluationFollowsTheTable : Obligations.ReevaluationFollowsTheTable := by
  refine ⟨fun s => State.reevaluate_of_unknown, fun s p hsettled => ?table, fun s p => ?guard⟩
  case table =>
    intro scannedServes idleServes
    have hscanned : scannedServes → s.service p = .scanned := State.service_eq_scanned_iff.2
    have hidle (hno : ¬scannedServes) (hi : idleServes) : s.service p = .idle := State.service_eq_idle_iff.2 ⟨hno, hi⟩
    have hnone (hno : ¬scannedServes) (hi : ¬idleServes) : s.service p = .none := State.service_eq_none_iff.2 ⟨hno, hi⟩
    refine ⟨fun hsteady => ⟨fun h => ?_, fun hno hi => ?_, fun hno hi => ?_⟩, fun r harmed hhost => ?_,
      fun r harmed hauto hmoved => ⟨fun h => ?_, fun hno hi => ?_, fun hno hi => ?_⟩,
      fun r harmed hauto hmoved => ⟨fun h => ?_, fun hno hi => ?_⟩⟩
    · simp only [State.reevaluate, hsettled, hsteady, hscanned h]
    · have h : s.reevaluate = s.arm .auto := by simp only [State.reevaluate, hsettled, hsteady, hidle hno hi]
      rw [h]
      exact ⟨rfl, _, rfl, rfl, rfl, rfl⟩
    · have h : s.reevaluate = s.unserved p := by simp only [State.reevaluate, hsettled, hsteady, hnone hno hi]
      rw [h]
      exact ⟨s.unserved_planes p, s.unserved_flag_stays p, rfl⟩
    · simp only [State.reevaluate, hsettled, harmed, hhost]
    · simp only [State.reevaluate, hsettled, harmed, hauto, hscanned h, hmoved]
      rfl
    · simp only [State.reevaluate, hsettled, harmed, hauto, hidle hno hi]
    · have h : s.reevaluate = s.withdraw.unserved p := by
        simp only [State.reevaluate, hsettled, harmed, hauto, hnone hno hi, hmoved]
      rw [h]
      exact ⟨s.withdraw.unserved_planes p, s.withdraw.unserved_flag_stays p, rfl⟩
    · by_cases hs : scannedServes
      · simp only [State.reevaluate, hsettled, harmed, hauto, hscanned hs, hmoved]
      · simp only [State.reevaluate, hsettled, harmed, hauto, hidle hs (h.resolve_left hs)]
    · have h : s.reevaluate = s.unserved p := by simp only [State.reevaluate, hsettled, harmed, hauto, hnone hno hi, hmoved]
      rw [h]
      exact ⟨s.unserved_planes p, s.unserved_flag_stays p, rfl⟩
  case guard =>
    intro scanned asked stands
    have hany : (s.fill.jobs.any fun j => decide (j.plane = s.planes.scanned) && decide (j.kind = .guard)) = true ↔ stands := by
      simp [stands, scanned]
    refine ⟨State.guardFor_of_not_asked, fun hasked hstands => ?_, fun hasked hno hroom => ?_, fun hasked hno hfull => ?_⟩
    · rw [State.guardFor_of_asked hasked, State.requestGuard, if_pos (hany.2 hstands)]
    · rw [State.guardFor_of_asked hasked, State.requestGuard, if_neg (mt hany.1 hno), State.fillFull_eq_false_iff.2 hroom]
      rfl
    · rw [State.guardFor_of_asked hasked, State.requestGuard, if_neg (mt hany.1 hno), if_pos (State.fillFull_iff.2 hfull)]

end Sys2Proof.Machine
end

section
/-! The fold tracker at work (R119 to R130). -/

namespace Sys2Proof.Machine

/-! ### Readings, health and mode (R121, R122, R125) -/

theorem offsetAngle_eq (code : Nat) (offset : Int) : offsetAngle code offset = ((code * 225 / 256 : Nat) : Int) + offset := rfl

theorem reading_eq (code : Nat) (offset : Int) :
    (reading code offset : Int) =
      if offsetAngle code offset < 0 then 0 else if 1800 < offsetAngle code offset then 1800 else offsetAngle code offset := by
  unfold reading
  split
  · omega
  · split <;> omega

theorem readingClamped_iff (code : Nat) (offset : Int) :
    readingClamped code offset = true ↔ offsetAngle code offset < 0 ∨ 1800 < offsetAngle code offset := by
  simp [readingClamped]

/-- R122: what an outcome makes of a sensor's health. -/
theorem Sensor.update_some (x : Sensor) (code : Nat) :
    x.update (some code) =
      { x with misses := 0, goods := min 2 (x.goods + 1), good := x.good || decide (min 2 (x.goods + 1) = 2) } := rfl

theorem Sensor.update_none (x : Sensor) :
    x.update none =
      { x with goods := 0, misses := min 3 (x.misses + 1), good := x.good && decide (min 3 (x.misses + 1) ≠ 3) } := rfl

/-- Settles O40: the conversion limits the sum of angle and offset; health and mode are read off their definitions. -/
theorem readingsHealthAndMode : Obligations.ReadingsHealthAndMode := by
  refine ⟨fun code offset hcode => ⟨?_, ?_, reading_eq code offset, ?_, rfl⟩, fun x outcome _ => ⟨?offset, ?good, ?miss⟩,
    fun t => ⟨fun h0 h1 hpair => ?_, fun hne hpair => ?_, fun hgood hpair => ?_, fun h0 h1 => ?_⟩⟩
  · unfold rawAngle; omega
  · unfold rawAngle; omega
  · rw [← offsetAngle_eq]
    by_cases h : readingClamped code offset = true
    · rw [if_pos ((readingClamped_iff code offset).1 h)]
      exact if_pos h
    · rw [if_neg (mt (readingClamped_iff code offset).2 h)]
      exact if_neg h
  case offset => cases outcome <;> rfl
  case good =>
    intro hsome
    obtain ⟨code, rfl⟩ := Option.isSome_iff_exists.1 hsome
    refine ⟨rfl, rfl, fun hx => ?_, fun hx => ?_⟩
    · simp [Sensor.update_some, hx]
    · simp [Sensor.update_some, hx]
  case miss =>
    rintro rfl
    refine ⟨rfl, rfl, fun hx => ?_, fun hx => ?_⟩
    · simp [Sensor.update_none, hx]
    · simp [Sensor.update_none, hx]
      omega
  · simp [Tracker.nextMode, h0, h1, hpair]
  · unfold Tracker.nextMode
    cases h0 : t.sensor0.good <;> cases h1 : t.sensor1.good <;> simp_all
  · unfold Tracker.nextMode
    cases h0 : t.sensor0.good <;> cases h1 : t.sensor1.good <;> simp_all
  · simp only [Tracker.nextMode, h0, h1]
    cases t.mode <;> rfl

/-! ### Candidates and dwell (R126 to R128) -/

theorem Tracker.classify_of_middle {t : Tracker} (h : t.settled = none ∨ t.settled = some .PARTIAL) (a : Nat) :
    t.classify a = if a ≤ t.closedEnter then .CLOSED else if a < t.openEnter then .PARTIAL else .OPEN := by
  unfold Tracker.classify
  obtain h | h := h <;> rw [h]

theorem Tracker.classify_of_closed {t : Tracker} (h : t.settled = some .CLOSED) (a : Nat) :
    t.classify a = if a ≤ t.closedExit then .CLOSED else if a < t.openEnter then .PARTIAL else .OPEN := by
  rw [Tracker.classify, h]

theorem Tracker.classify_of_open {t : Tracker} (h : t.settled = some .OPEN) (a : Nat) :
    t.classify a = if t.openExit ≤ a then .OPEN else if t.closedEnter < a then .PARTIAL else .CLOSED := by
  rw [Tracker.classify, h]

/-- R127: the count of a candidate that was pending before. -/
theorem Tracker.dwellCount_of_pending {t : Tracker} {p : Posture} {n : Nat} (h : t.candidate = some (p, n)) : t.dwellCount p = n + 1 := by
  simp [Tracker.dwellCount, h]

theorem Tracker.dwellCount_of_new {t : Tracker} {p : Posture} (h : ∀ n, t.candidate ≠ some (p, n)) : t.dwellCount p = 1 := by
  unfold Tracker.dwellCount
  split
  · next q n hq =>
    rw [if_neg]
    rintro rfl
    exact h n hq
  · rfl

theorem Tracker.dwellOn_of_settled {t : Tracker} {p : Posture} (h : t.settled = some p) : t.dwellOn p = { t with candidate := none } :=
  if_pos h

theorem Tracker.dwellOn_of_unsettled {t : Tracker} {p : Posture} (h : t.settled ≠ some p) :
    t.dwellOn p =
      if t.dwell ≤ t.dwellCount p then { t with settled := some p, candidate := none }
      else { t with candidate := some (p, t.dwellCount p) } := if_neg h

/-- Settles O43: a candidate by the thresholds of the settled posture, and its dwell. -/
theorem candidatesAndDwell : Obligations.CandidatesAndDwell := by
  refine ⟨fun t a => ⟨rfl, fun hsettled _ => ?middle, fun hsettled _ => ?closed, fun hsettled hlt => ?opened⟩,
    fun t latch a => ⟨rfl, fun h => Tracker.dwellOn_of_settled h, fun n h hpending => ?pending, fun h hnew => ?new⟩⟩
  case middle =>
    have hclass : t.candidateOf false a = _ := Tracker.classify_of_middle hsettled a
    rw [hclass]
    refine ⟨fun h => if_pos h, fun h h' => ?_, fun h => ?_⟩
    · rw [if_neg (Nat.not_le.2 h), if_pos h']
    · rw [if_neg (by omega), if_neg (Nat.not_lt.2 h)]
  case closed =>
    have hclass : t.candidateOf false a = _ := Tracker.classify_of_closed hsettled a
    rw [hclass]
    refine ⟨fun h => if_pos h, fun h h' => ?_, fun h => ?_⟩
    · rw [if_neg (Nat.not_le.2 h), if_pos h']
    · rw [if_neg (by omega), if_neg (Nat.not_lt.2 h)]
  case opened =>
    have hclass : t.candidateOf false a = _ := Tracker.classify_of_open hsettled a
    rw [hclass]
    refine ⟨fun h => if_pos h, fun h h' => ?_, fun h => ?_⟩
    · rw [if_neg (Nat.not_le.2 h'), if_pos h]
    · rw [if_neg (by omega), if_neg (Nat.not_lt.2 h)]
  case pending =>
    refine (Tracker.dwellOn_of_unsettled h).trans ?_
    rw [Tracker.dwellCount_of_pending hpending]
  case new =>
    refine (Tracker.dwellOn_of_unsettled h).trans ?_
    rw [Tracker.dwellCount_of_new hnew]

/-! ### Latch edges (R129, R130) -/

theorem State.report_translator_waitingInsert (s : State) (f : EventFlag) : (s.report f).waitingInsert = s.waitingInsert := by
  unfold State.waitingInsert
  rw [State.report_translator]

/-- Settles O44: a rising edge is `latchRising`, a falling one a report alone. -/
theorem latchEdges : Obligations.LatchEdges := by
  refine fun s hpower => ⟨fun hline => ?rise, fun hline => ?fall⟩
  case rise =>
    let s' : State := { s with pins := { s.pins with closedLatch := true } }
    have hact : act .latchRise s = .concluded s'.latchRising := (if_neg (by simp [hline])).trans (if_neg (by simp [hpower]))
    have hkept := (State.conclude_kept s'.latchRising).trans s'.latchRising_kept
    obtain ⟨hlatch, hposture⟩ := s'.latchRising_conclude_flags
    refine ⟨_, exec_of_concluded hact, congrArg Kept.pins hkept, congrArg Kept.tracker hkept, hlatch, hposture, fun hclosed hdue => ?_,
      fun hclosed => ?_, fun hclosed => ?_⟩
    · have hplanes : s'.latchRising.planes = s.planes := by
        rw [State.latchRising_of_closed (s := s') hclosed, State.report_planes]
      have hframe : s'.latchRising.frame = s.frame := congrArg Kept.frame s'.latchRising_kept
      rw [State.conclude_planes ((State.swapDue_congr hplanes hframe).trans hdue), hplanes]
    · rw [State.latchRising_of_closed (s := s') hclosed]
    · rw [State.latchRising_of_not_closed (s := s') hclosed]
  case fall =>
    let s' : State := { s with pins := { s.pins with closedLatch := false } }
    have hact : act .latchFall s = .concluded (s'.report .latch) := (if_pos hline).trans (if_neg (by simp [hpower]))
    have hkept := (State.conclude_kept (s'.report .latch)).trans (s'.report_kept .latch)
    have hdue : (s'.report .latch).swapDue = s.swapDue := State.swapDue_congr (State.report_planes _ _) (State.report_frame _ _)
    refine ⟨_, exec_of_concluded hact, congrArg Kept.pins hkept, congrArg Kept.tracker hkept, State.conclude_flagsStay _ _ ?_,
      fun h => ?_, fun h hwaits g hg => ?_, rfl⟩
    · simp [State.report_flag]
    · rw [State.conclude_planes (hdue.trans h), State.report_planes]
    · rw [State.conclude_of_rest (hdue.trans h) ((State.report_translator_waitingInsert _ _).trans hwaits), State.flag,
        State.choicePoint_flags]
      exact (State.report_flag s' _ g).trans (by simp [hg]; rfl)

/-! ### Samples (R119, R120, R125, R127) -/

/-- A sample in progress keeps the I2C lines in use. -/
theorem State.i2cBusy_of_sample {s : State} (h : s.tracker.sample ≠ .none) : s.i2cBusy = true := decide_eq_true h

theorem exec_sensorRead {s : State} (h : s.tracker.sample ≠ .none) (k : Bool) (a b : Byte) :
    exec (.sensorRead k a b) s = .next (s.endRead (readOutcome k a b)).conclude := exec_of_concluded (if_pos (State.i2cBusy_of_sample h))

theorem exec_i2cTimeout {s : State} (h : s.tracker.sample ≠ .none) : exec .i2cTimeout s = .next (s.endRead none).conclude :=
  exec_of_concluded (if_pos (State.i2cBusy_of_sample h))

theorem readOutcome_eq (k : Bool) (a b : Byte) :
    readOutcome k a b = if k = true ∧ a.getLsbD 7 = true then some (a.toNat % 16 * 256 + b.toNat) else none := by
  unfold readOutcome
  simp only [Bool.and_eq_true, Nat.mul_comm]

theorem Tracker.sensorReport_iff (t u : Tracker) :
    Tracker.sensorReport t u = true ↔
      t.sensor0.good ≠ u.sensor0.good ∨ t.sensor1.good ≠ u.sensor1.good ∨ t.pair ≠ u.pair ∨ t.mode ≠ u.mode := by
  simp [Tracker.sensorReport, or_assoc]

theorem State.sampleTold_eq (s : State) (o0 o1 : Option Nat) :
    s.sampleTold o0 o1 =
      if s.tracker.sensor0.good ≠ (s.tracker.evaluate s.pins.closedLatch o0 o1).sensor0.good ∨
          s.tracker.sensor1.good ≠ (s.tracker.evaluate s.pins.closedLatch o0 o1).sensor1.good ∨
          s.tracker.pair ≠ (s.tracker.evaluate s.pins.closedLatch o0 o1).pair ∨
          s.tracker.mode ≠ (s.tracker.evaluate s.pins.closedLatch o0 o1).mode then
        (s.sampleCounted o0 o1).report .sensor
      else s.sampleCounted o0 o1 := by
  unfold State.sampleTold
  by_cases h : Tracker.sensorReport s.tracker (s.tracker.evaluate s.pins.closedLatch o0 o1) = true
  · rw [if_pos h, if_pos ((Tracker.sensorReport_iff _ _).1 h)]
  · rw [if_neg h, if_neg (mt (Tracker.sensorReport_iff _ _).2 h)]

theorem State.sampleTold_counters (s : State) (o0 o1 : Option Nat) :
    (s.sampleTold o0 o1).status.counters = (s.sampleCounted o0 o1).status.counters := by
  unfold State.sampleTold
  split
  · exact State.report_counters _ _
  · rfl

theorem State.sampleTold_kept (s : State) (o0 o1 : Option Nat) :
    (s.sampleTold o0 o1).kept = ({ s with tracker := s.tracker.evaluate s.pins.closedLatch o0 o1 } : State).kept := by
  unfold State.sampleTold
  split
  · exact State.report_kept _ _
  · rfl

theorem State.evaluate_kept (s : State) (o0 o1 : Option Nat) :
    (s.evaluate o0 o1).kept = ({ s with tracker := s.tracker.evaluate s.pins.closedLatch o0 o1 } : State).kept := by
  rw [State.evaluate_eq]
  split
  · exact s.sampleTold_kept o0 o1
  · rw [State.reevaluate_kept, State.report_kept, State.sampleTold_kept]

/-- What the reports of an evaluated sample set stays to its end. -/
theorem State.sampleTold_flagsStay_evaluate (s : State) (o0 o1 : Option Nat) : FlagsStay (s.sampleTold o0 o1) (s.evaluate o0 o1) := by
  rw [State.evaluate_eq]
  split
  · exact .refl _
  · exact (State.report_flagsStay _ _).trans (State.reevaluate_flagsStay _)

theorem State.evaluate_clampedSamples (s : State) (o0 o1 : Option Nat) :
    (s.evaluate o0 o1).status.counters.clampedSamples =
      raise s.status.counters.clampedSamples (clampReports o0 s.tracker.sensor0.offset + clampReports o1 s.tracker.sensor1.offset) := by
  have htold : (s.sampleTold o0 o1).status.counters.clampedSamples =
      raise s.status.counters.clampedSamples (clampReports o0 s.tracker.sensor0.offset + clampReports o1 s.tracker.sensor1.offset) := by
    rw [State.sampleTold_counters]
    rfl
  rw [State.evaluate_eq]
  split
  · exact htold
  · rw [State.reevaluate_counters, State.report_counters, htold]

/-- Settles O39: the first read is stored, the second one evaluates the sample. -/
theorem samplesAreReadAndEvaluated : Obligations.SamplesAreReadAndEvaluated := by
  refine ⟨fun s htimer => ?timer, fun s k a b hsample => ?first, fun s o0 c o1 hsample hc => ?second⟩
  case timer =>
    have hact : act .sampleTimer s = .still { s with
        tracker := { s.tracker with
          sampleTimer := some s.tracker.period
          sample := if s.tracker.sample = .none then Sample.reading0 else s.tracker.sample } } := if_pos htimer
    refine (exec_of_still hact).trans ?_
    cases s.tracker.sample <;> rfl
  case first =>
    have hbusy : s.tracker.sample ≠ .none := by rw [hsample]; nofun
    have hend (o : Option Nat) : s.endRead o = { s with tracker := { s.tracker with sample := .reading1 o } } := by
      rw [State.endRead, hsample]
    refine ⟨?_, ?_⟩
    · rw [exec_sensorRead hbusy, hend, readOutcome_eq]
    · rw [exec_i2cTimeout hbusy, hend]
  case second =>
    have hbusy : s.tracker.sample ≠ .none := by rw [hsample]; nofun
    have hend : s.endRead o1 = s.evaluate o0 o1 := by rw [State.endRead, hsample]
    have hexec : exec c s = .next (s.evaluate o0 o1).conclude := by
      rw [← hend]
      obtain ⟨rfl, rfl⟩ | ⟨k, a, b, rfl, rfl⟩ := hc
      · exact exec_i2cTimeout hbusy
      · exact exec_sensorRead hbusy k a b
    have hkept := (State.conclude_kept (s.evaluate o0 o1)).trans (s.evaluate_kept o0 o1)
    have htracker : (s.evaluate o0 o1).conclude.tracker = s.tracker.evaluate s.pins.closedLatch o0 o1 := congrArg Kept.tracker hkept
    have hflags : FlagsStay (s.sampleTold o0 o1) (s.evaluate o0 o1).conclude :=
      (s.sampleTold_flagsStay_evaluate o0 o1).trans (State.conclude_flagsStay _)
    refine ⟨_, hexec, htracker, by rw [htracker]; rfl, fun _ => ?_, fun hchange => hflags _ ?_, fun hchange => ?_, congrArg Kept.pins hkept,
      congrArg Kept.front hkept, congrArg Kept.mem hkept, fun hsame => ?_, fun hchange => ?_⟩
    · exact (State.conclude_sideCounters _).clampedSamples.trans (s.evaluate_clampedSamples o0 o1)
    · rw [htracker] at hchange
      rw [State.sampleTold_eq, if_pos hchange]
      simp [State.report_flag]
    · rw [htracker] at hchange
      refine State.conclude_flagsStay _ _ ?_
      rw [State.evaluate_eq, if_neg (Ne.symm hchange)]
      exact State.reevaluate_flagsStay _ _ (by simp [State.report_flag])
    · rw [State.evaluate_eq, if_pos hsame.symm, State.sampleTold_eq]
      rfl
    · rw [State.evaluate_eq, if_neg (Ne.symm hchange), State.sampleTold_eq]
      rfl

end Sys2Proof.Machine
end

section
/-! What the link accepts (R1, R4, R5), the judgement of records (R161 to R163), LOAD and UNLOAD (R26, R42), SET-PATH and ACK (R164, R165)
and the tables of the status writer (R167 to R172). -/

namespace Sys2Proof.Machine

/-! ### Requests accepted (R1, R4, R5) -/

theorem State.ready_iff (s : State) : s.ready = true ↔ s.front.link = .awake ∧ s.inbound.length < s.front.highWater := by
  simp [State.ready]

/-- Settles O23: the ready line is high exactly while the link is AWAKE below the high-water mark. -/
theorem acceptJoinsTheTail : Obligations.AcceptJoinsTheTail := by
  refine fun r s hwf => ⟨fun hawake hroom => ?joins, fun hnot => ?refused⟩
  case joins =>
    have hready : s.ready = true := s.ready_iff.2 ⟨hawake, hroom⟩
    have hact : act (.accept r) s = .concluded { s with inbound := s.inbound ++ [r] } := if_pos (by rw [hready, hwf]; rfl)
    refine ⟨exec_of_concluded hact, ?_⟩
    rw [List.length_append]
    exact hroom
  case refused =>
    have hact : act (.accept r) s = .still s := if_neg fun hready => hnot (s.ready_iff.1 (Bool.and_eq_true_iff.1 hready).1)
    exact exec_of_still hact

/-! ### Control records (R161 to R163) -/

/-- The commands that are rows of a control record, with its command word and check word and what it does when taken. -/
inductive RecordRow : Instr → Word → Word → (State → State) → Prop where
  | load (check slot offset : Word) : RecordRow (.load check slot offset) 1 check (State.takeLoad slot offset)
  | unload (check slot : Word) : RecordRow (.unload check slot) 2 check (State.takeUnload slot)
  | bind (check slot plane flag : Word) : RecordRow (.bind check slot plane flag) 3 check (State.takeBind slot plane flag)
  | unbind (check plane : Word) : RecordRow (.unbind check plane) 4 check (State.takeUnbind plane)
  | commit (check : Word) : RecordRow (.commit check) 5 check State.takeCommit
  | cancel (check : Word) : RecordRow (.cancel check) 6 check State.takeCancel
  | fill (check plane x y width height colour : Word) :
    RecordRow (.fill check plane x y width height colour) 7 check (State.takeFill plane x y width height colour)
  | setMap (check closed partly opened : Word) :
    RecordRow (.setMap check closed partly opened) 8 check (State.takeSetMap closed partly opened)
  | setTracker (check a b c d e f g h i : Word) :
    RecordRow (.setTracker check a b c d e f g h i) 9 check (State.takeSetTracker a b c d e f g h i)
  | setPath (check a b c d e : Word) : RecordRow (.setPath check a b c d e) 10 check (State.takeSetPath a b c d e)
  | ack (check mask clear : Word) : RecordRow (.ack check mask clear) 11 check (State.takeAck mask clear)
  | reset (check : Word) : RecordRow (.reset check) 12 check State.takeReset
  | badCommand (command check : Word) (h : knownCommand command = false) :
    RecordRow (.badCommand command check) command check fun s => s.recordResult .badCommand

theorem RecordRow.act_eq {c : Instr} {command check : Word} {take : State → State} (h : RecordRow c command check take) (s : State) :
    act c s = s.controlRecord command check take := by
  cases h with
  | badCommand _ _ hunknown => exact if_neg (by simp [hunknown])
  | _ => rfl

/-- Every command that has a command word is a row. -/
theorem RecordRow.of_controlWords {c : Instr} {command check : Word} (hwf : c.wf = true)
    (h : controlWords c = some (command, check)) : ∃ take, RecordRow c command check take := by
  cases c with
  | badCommand w k => cases h; exact ⟨_, .badCommand _ _ (by simpa [Instr.wf] using hwf)⟩
  | load => cases h; exact ⟨_, .load _ _ _⟩
  | unload => cases h; exact ⟨_, .unload _ _⟩
  | bind => cases h; exact ⟨_, .bind _ _ _ _⟩
  | unbind => cases h; exact ⟨_, .unbind _ _⟩
  | commit => cases h; exact ⟨_, .commit _⟩
  | cancel => cases h; exact ⟨_, .cancel _⟩
  | fill => cases h; exact ⟨_, .fill _ _ _ _ _ _ _⟩
  | setMap => cases h; exact ⟨_, .setMap _ _ _ _⟩
  | setTracker => cases h; exact ⟨_, .setTracker _ _ _ _ _ _ _ _ _ _⟩
  | setPath => cases h; exact ⟨_, .setPath _ _ _ _ _ _⟩
  | ack => cases h; exact ⟨_, .ack _ _ _⟩
  | reset => cases h; exact ⟨_, .reset _⟩
  | _ => cases h

/-- A row whose record reaches the decoder is judged there. -/
theorem RecordRow.exec_reached {c : Instr} {command check : Word} {take : State → State} (h : RecordRow c command check take) {s : State}
    (hreached : s.decoderReached = true) : exec c s = .next (s.arrive command check take).conclude :=
  exec_of_concluded ((h.act_eq s).trans (if_pos hreached))

theorem RecordRow.exec_away {c : Instr} {command check : Word} {take : State → State} (h : RecordRow c command check take) {s : State}
    (haway : s.decoderReached = false) : exec c s = .next s :=
  exec_of_still ((h.act_eq s).trans (State.controlRecord_away _ _ _ _ haway))

theorem State.arrive_rejected {s : State} {command check : Word} (take : State → State)
    (h : check ≠ ~~~command ∨ (s.decoder.busy = true ∧ command ≠ 12)) : s.arrive command check take = s.rejectRecord := by
  refine if_neg fun htakes => ?_
  obtain ⟨hcheck, hbusy⟩ := State.takes_iff.1 htakes
  obtain hwrong | ⟨hb, hcommand⟩ := h
  · exact hwrong hcheck
  · obtain hidle | hreset := hbusy
    · simp [hb] at hidle
    · exact hcommand hreset

theorem knownCommand_eq_false_iff (w : Word) : knownCommand w = false ↔ w.toNat = 0 ∨ 12 < w.toNat := by
  simp only [knownCommand, Bool.and_eq_false_iff, decide_eq_false_iff_not]
  omega

theorem commandOf_unknown {command : Word} (h : command.toNat = 0 ∨ 12 < command.toNat) (w : Nat → Word) :
    commandOf command w = fun s => s.recordResult .badCommand := by
  unfold commandOf
  split <;> try omega
  rfl

/-- The row of the command word of a record's bytes does what the bytes do at the decoder. -/
theorem RecordRow.exec_snoop {c : Instr} {s : State} {bytes : List Byte} (hreached : s.decoderReached = true)
    (h : RecordRow c (recordWord bytes 0) (recordWord bytes 1) (commandOf (recordWord bytes 0) fun n => recordWord bytes (n + 2))) :
    exec c s = .next (s.snoop bytes).conclude := h.exec_reached hreached

/-- Settles O54: a row is `controlRecord` of its words, and the bytes of a record choose their row by the command word. -/
theorem recordsAreJudgedAlike : Obligations.RecordsAreJudgedAlike := by
  refine ⟨⟨fun c command check s hwf hwords => ?judged, fun command s hunknown hattends => ?unknown⟩, fun s bytes hreached => ?snooped⟩
  case judged =>
    obtain ⟨take, hrow⟩ := RecordRow.of_controlWords hwf hwords
    refine ⟨fun hreached hbad => ?_, fun haway => hrow.exec_away haway⟩
    rw [hrow.exec_reached hreached, State.arrive_rejected take hbad]
    exact rfl
  case unknown =>
    have hrow := RecordRow.badCommand command (~~~command) ((knownCommand_eq_false_iff command).2 hunknown)
    exact exec_record_taken hattends (hrow.act_eq s)
  case snooped =>
    refine ⟨fun h => ?_, fun h => ?_, fun h => ?_, fun h => ?_, fun h => ?_, fun h => ?_, fun h => ?_, fun h => ?_, fun h => ?_,
      fun h => ?_, fun h => ?_, fun h => ?_, fun h => ?_⟩
    · exact RecordRow.exec_snoop hreached (by rw [h]; exact .load _ _ _)
    · exact RecordRow.exec_snoop hreached (by rw [h]; exact .unload _ _)
    · exact RecordRow.exec_snoop hreached (by rw [h]; exact .bind _ _ _ _)
    · exact RecordRow.exec_snoop hreached (by rw [h]; exact .unbind _ _)
    · exact RecordRow.exec_snoop hreached (by rw [h]; exact .commit _)
    · exact RecordRow.exec_snoop hreached (by rw [h]; exact .cancel _)
    · exact RecordRow.exec_snoop hreached (by rw [h]; exact .fill _ _ _ _ _ _ _)
    · exact RecordRow.exec_snoop hreached (by rw [h]; exact .setMap _ _ _ _)
    · exact RecordRow.exec_snoop hreached (by rw [h]; exact .setTracker _ _ _ _ _ _ _ _ _ _)
    · exact RecordRow.exec_snoop hreached (by rw [h]; exact .setPath _ _ _ _ _ _)
    · exact RecordRow.exec_snoop hreached (by rw [h]; exact .ack _ _ _)
    · exact RecordRow.exec_snoop hreached (by rw [h]; exact .reset _)
    · refine RecordRow.exec_snoop hreached ?_
      have hunknown : (recordWord bytes 0).toNat = 0 ∨ 12 < (recordWord bytes 0).toNat := h.imp (fun h0 => by rw [h0]; rfl) id
      rw [commandOf_unknown hunknown]
      exact .badCommand _ _ ((knownCommand_eq_false_iff _).2 hunknown)

/-! ### LOAD and UNLOAD (R26, R42) -/

/-- The last write of a queue is the newest. -/
theorem State.newestWrite_of_queued {s : State} {ahead behind : List Segment} {x : Segment} (h : s.outQueue = ahead ++ x :: behind)
    (hx : x.payload.isWrite = true) (hbehind : ∀ y ∈ behind, y.payload.isWrite = false) : s.newestWrite = some x.id := by
  have hnone : (behind.filter fun y => y.payload.isWrite) = [] := List.filter_eq_nil_iff.2 fun y hy => by simp [hbehind y hy]
  have hlast : (s.outQueue.filter fun y => y.payload.isWrite).getLast? = some x := by
    rw [h, List.filter_append, List.filter_cons_of_pos (by exact hx), hnone, List.getLast?_append, List.getLast?_singleton]
    rfl
  rw [State.newestWrite, hlast]

section
variable {s : State} (h : ∀ x ∈ s.outQueue, x.payload.isWrite = false)
include h

theorem State.getLast?_writes_of_none : (s.outQueue.filter fun y => y.payload.isWrite).getLast? = none := by
  rw [List.filter_eq_nil_iff.2 fun y hy => by simp [h y hy]]
  rfl

theorem State.newestWrite_of_flight {f : Flight} {id : Nat} {kind : SegmentKind} (hport : s.port = some f)
    (horigin : f.origin = .path id kind) (hwanted : f.wanted = true) (hwrite : f.payload.isWrite = true) :
    s.newestWrite = some id := by
  rw [State.newestWrite, State.getLast?_writes_of_none h, hport]
  simp only [horigin, hwanted, hwrite]
  rfl

theorem State.newestWrite_of_idle (hport : s.port = none) : s.newestWrite = none := by
  rw [State.newestWrite, State.getLast?_writes_of_none h, hport]

end

theorem Planes.slotBound_iff (t : Planes) (i : Fin 8) : t.slotBound i = true ↔ t.a.binding = some i ∨ t.b.binding = some i := by
  simp [Planes.slotBound]

theorem chainOffsetOk_iff (offset : Nat) :
    chainOffsetOk offset = true ↔ offset % 32 = 0 ∧ 0x200 ≤ offset ∧ offset ≤ 0xFFE0 := by
  simp [chainOffsetOk, and_assoc]

theorem State.takeLoad_badSlot {slot : Word} (h : slotOf slot = none) (offset : Word) (s : State) :
    s.takeLoad slot offset = s.recordResult .badSlot := by
  rw [State.takeLoad, h]

theorem State.takeLoad_slot {slot : Word} {i : Fin 8} (h : slotOf slot = some i) (offset : Word) (s : State) :
    s.takeLoad slot offset =
      if s.planes.slotBound i then s.recordResult .inUse
      else if chainOffsetOk offset.toNat then s.beginLoad i offset.toNat
      else s.recordResult .chainRange := by
  rw [State.takeLoad, h]

theorem State.takeUnload_badSlot {slot : Word} (h : slotOf slot = none) (s : State) :
    s.takeUnload slot = s.recordResult .badSlot := by
  rw [State.takeUnload, h]

theorem State.takeUnload_slot {slot : Word} {i : Fin 8} (h : slotOf slot = some i) (s : State) :
    s.takeUnload slot = if s.planes.slotBound i then s.recordResult .inUse else (s.setSlot i .empty).recordResult .ok := by
  rw [State.takeUnload, h]

/-- R26, R27: the slot LOADING, the fetch waiting, busy set, and the indication on the newest write. -/
theorem State.beginLoad_eq (s : State) (i : Fin 8) (offset : Nat) :
    s.beginLoad i offset =
      { s with
        decoder := { s.decoder with busy := true }
        mailboxOutstanding := if s.newestWrite = none then s.mailboxOutstanding else s.newestWrite
        layouts :=
          { slots := s.layouts.slots.set i (.loading s.layouts.slots[i].layout?)
            load :=
              some
                { slot := i, offset := offset, kind := .head, fetched := 0, staging := Staging.cleared, phase := .waiting,
                  data := [] } } } := by
  rw [State.beginLoad, State.awaitWrites_eq]
  rfl

/-- Settles O46: the newest write is the last of the queue or the one in flight; each command by its slot, the bindings and the offset. -/
theorem loadAndUnload : Obligations.LoadAndUnload := by
  refine ⟨fun s => ⟨fun ahead x behind h hx hbehind => State.newestWrite_of_queued h hx hbehind, fun h => ⟨?_, ?_⟩⟩, fun s hattends =>
    ⟨fun slot offset => ⟨fun hhigh => ?_, fun i hi => ?load⟩, fun slot => ⟨fun hhigh => ?_, fun i hi => ?unload⟩⟩⟩
  · exact fun f id kind => State.newestWrite_of_flight h
  · exact State.newestWrite_of_idle h
  · refine (exec_record_taken (command := 1) hattends rfl).trans ?_
    rw [State.takeLoad_badSlot (slotOf_high slot hhigh), State.recordResult_noteTaken]
    exact rfl
  case load =>
    have hexec : exec (.load (~~~1) slot offset) s = .next ((s.noteTaken 1).takeLoad slot offset).conclude :=
      exec_record_taken (command := 1) hattends rfl
    rw [hexec, State.takeLoad_slot (slotOf_number slot i hi)]
    refine ⟨fun hbound => ?_, fun ha hb => ?_⟩
    · rw [if_pos (show (s.noteTaken 1).planes.slotBound i = true from (Planes.slotBound_iff _ i).2 hbound)]
      exact rfl
    · rw [if_neg (mt (Planes.slotBound_iff _ i).1 (by simp [State.noteTaken, ha, hb]))]
      refine ⟨fun hbad => ?_, fun h32 hlow hhigh => ?_⟩
      · rw [if_neg (mt (chainOffsetOk_iff _).1 hbad)]
        exact rfl
      · rw [if_pos ((chainOffsetOk_iff _).2 ⟨h32, hlow, hhigh⟩), State.beginLoad_eq]
        exact rfl
  · refine (exec_record_taken (command := 2) hattends rfl).trans ?_
    rw [State.takeUnload_badSlot (slotOf_high slot hhigh), State.recordResult_noteTaken]
    exact rfl
  case unload =>
    have hexec : exec (.unload (~~~2) slot) s = .next ((s.noteTaken 2).takeUnload slot).conclude :=
      exec_record_taken (command := 2) hattends rfl
    rw [hexec, State.takeUnload_slot (slotOf_number slot i hi)]
    refine ⟨fun hbound => ?_, fun ha hb => ?_⟩
    · rw [if_pos (show (s.noteTaken 2).planes.slotBound i = true from (Planes.slotBound_iff _ i).2 hbound)]
      exact rfl
    · rw [if_neg (mt (Planes.slotBound_iff _ i).1 (by simp [State.noteTaken, ha, hb]))]
      exact rfl

/-! ### SET-PATH, ACK and the attention line (R164, R165, R168) -/

theorem Option.map_const_eq {α : Type} (o : Option α) (a : α) : (o.map fun _ => a) = if o.isSome then some a else none := by
  cases o <;> rfl

/-- Every one of the 14 flag bits is an event flag's. -/
theorem EventFlag.exists_bit {i : Nat} (h : i < 14) : ∃ f : EventFlag, f.bit = i := by
  have hall : ∀ j : Fin 14, ∃ f ∈ [EventFlag.powerOn, .loadDone, .swapDone, .swapAbandoned, .swapLate, .posture, .unserved, .sensor, .latch,
      .fillDone, .guardDropped, .cmdRejected, .saturate, .orphan], f.bit = j.val := by decide
  obtain ⟨f, _, hf⟩ := hall ⟨i, h⟩
  exact ⟨f, hf⟩

theorem State.attention_iff (s : State) :
    s.attention = true ↔ s.pins.powerOnReset = false ∧ ∃ f : EventFlag, s.flag f = true ∧ s.status.mask.getLsbD f.bit = true := by
  have hbits : s.status.flags &&& s.status.mask ≠ 0 ↔ ∃ f : EventFlag, s.flag f = true ∧ s.status.mask.getLsbD f.bit = true := by
    constructor
    · intro hne
      by_contra hnone
      push Not at hnone
      refine hne (BitVec.eq_of_getLsbD_eq fun i hi => ?_)
      obtain ⟨f, rfl⟩ := EventFlag.exists_bit hi
      have hf := hnone f
      rw [BitVec.getLsbD_and]
      cases hflag : s.status.flags.getLsbD f.bit with
      | false => simp
      | true => simpa using hf hflag
    · rintro ⟨f, hf, hmask⟩ hzero
      have hbit := congrArg (fun v => BitVec.getLsbD v f.bit) hzero
      rw [BitVec.getLsbD_and, show s.status.flags.getLsbD f.bit = true from hf, hmask] at hbit
      simp at hbit
  rw [State.attention, Bool.and_eq_true, Bool.not_eq_true', decide_eq_true_iff, hbits]

/-- R164: whether no setting of the record has to be moved into its range. -/
theorem pathSettingsInRange_iff {highWater settle age swapLimit : Nat} :
    (inRange 8 32 highWater && inRange 1 255 settle && inRange 1 50 age && inRange 10 1000 swapLimit) = true ↔
      (8 ≤ highWater ∧ highWater ≤ 32) ∧ (1 ≤ settle ∧ settle ≤ 255) ∧ (1 ≤ age ∧ age ≤ 50) ∧ (10 ≤ swapLimit ∧ swapLimit ≤ 1000) := by
  simp only [Bool.and_eq_true, inRange_iff, and_assoc]

/-- Settles O52: each setting is clamped, and the result says whether one was moved; the attention line is read off its bits. -/
theorem pathSettingsAndAcknowledgement : Obligations.PathSettingsAndAcknowledgement := by
  refine ⟨fun s hattends => ⟨fun highWater settle age swapLimit mask => ?path, fun mask clear => ?ack⟩, State.attention_iff⟩
  case path =>
    intro within stored
    have hstored : exec (.setPath (~~~10) highWater settle age swapLimit mask) s = .next (stored.answered 10 (clampResult
        (inRange 8 32 highWater.toNat && inRange 1 255 settle.toNat && inRange 1 50 age.toNat &&
          inRange 10 1000 swapLimit.toNat))).conclude := by
      refine (exec_record_taken (command := 10) hattends rfl).trans (congrArg (fun u : State => Host.Outcome.next u.conclude) ?_)
      rw [State.takeSetPath, Option.map_const_eq]
      exact rfl
    refine ⟨fun hwithin => ?_, fun houtside => ?_⟩
    · rw [hstored, pathSettingsInRange_iff.2 hwithin]
      exact rfl
    · rw [hstored, Bool.eq_false_iff.2 (mt pathSettingsInRange_iff.1 houtside)]
      exact rfl
  case ack => exact exec_record_taken (command := 11) (take := State.takeAck mask clear) hattends rfl

/-! ### The status writer (R167 to R172) -/

theorem LinkState.active_iff (l : LinkState) : l.active = true ↔ l = .awake ∨ l = .sleepDrain := by
  cases l <;> simp [LinkState.active]

theorem State.offerRecord_write (s : State) :
    s.offerRecord.status.write = if s.front.link = .awake ∨ s.front.link = .sleepDrain then .offered else .due := by
  by_cases h : s.front.link.active = true
  · rw [if_pos (s.front.link.active_iff.1 h), State.offerRecord, State.offerOrDefer, if_pos h]
    exact rfl
  · rw [if_neg (mt s.front.link.active_iff.2 h), State.offerRecord, State.offerOrDefer, if_neg h]
    exact rfl

/-- The record write state after a cause depends on the one before it and on the link alone. -/
theorem State.recordCause_write_congr {s t : State} (hwrite : t.status.write = s.status.write) (hfront : t.front = s.front) :
    t.recordCause.status.write = s.recordCause.status.write := by
  rw [State.recordCause, State.recordCause, hwrite]
  cases hw : s.status.write with
  | quiet => rw [State.offerRecord_write, State.offerRecord_write, hfront]
  | writing => rfl
  | _ => exact hwrite

/-- Settles O55: each table of the status writer, row by row. -/
theorem statusWriterFollowsItsTables : Obligations.StatusWriterFollowsItsTables := by
  refine ⟨fun s f => ⟨?_, fun g hg => ?_, fun hf => if_pos hf, fun hf => ?_, State.report_counters s f, ?_⟩,
    fun s => ⟨?_, fun h => ?_, fun h => ?_, rfl, rfl⟩, ⟨rfl, rfl, rfl, rfl, rfl⟩, fun n k hn => ?_⟩
  · simp [State.report_flag]
  · simp [State.report_flag, hg]
  · rw [State.report, if_neg (by simp [hf])]
    exact State.recordCause_write_congr rfl rfl
  · obtain ⟨fl, w, b, h⟩ := s.report_eq f
    rw [h]
  · rw [State.recordCause]
    cases hw : s.status.write with
    | quiet => exact s.offerRecord_write
    | due => exact hw
    | offered => exact hw
    | writing => rfl
    | writingDue => exact hw
  · rw [State.recordWritten, h]
    exact rfl
  · rw [State.recordWritten, h]
    exact s.offerRecord_write
  · unfold raise
    simp only [show Config.counterTop = 65535 from rfl]
    omega

end Sys2Proof.Machine
end

section
/-! The arbiter's choice (R150 to R154): what a pick says of the offers, and how a completion is answered. -/

namespace Sys2Proof.Machine

/-! ### What a pick says of the offers it sees (R152, R153) -/

/-- The source x is the one the order of R152 and R153 puts first among the offers seen. -/
structure State.Picks (s : State) (seen : Source → Bool) (x : Source) : Prop where
  stands : seen x = true
  fetch : x = .fetch → seen .record = true → s.fetchFirst = true
  record : x = .record → seen .fetch = true → s.fetchFirst = false
  noControl : x ≠ .fetch → x ≠ .record → seen .fetch = false ∧ seen .record = false
  noPriority : (x = .path ∨ x = .ordinary ∨ x = .fill) → seen .priority = false
  path : x = .path →
    (s.pointer = .ordinary → seen .ordinary = false ∧ seen .fill = false) ∧ (s.pointer = .fill → seen .fill = false)
  ordinary : x = .ordinary → (s.pointer = .fill → seen .fill = false ∧ seen .path = false) ∧ (s.pointer = .path → seen .path = false)
  fill : x = .fill →
    (s.pointer = .path → seen .path = false ∧ seen .ordinary = false) ∧ (s.pointer = .ordinary → seen .ordinary = false)

/-- Step 3 of R153: the ring is looked through from its first source. -/
theorem pickRing_eq_some {visible : Source → Bool} {first r : Ring} (h : pickRing visible first = some r) :
    first = r ∨ (first.next = r ∧ visible first.source = false) ∨
      (first.next.next = r ∧ visible first.source = false ∧ visible first.next.source = false) := by
  unfold pickRing at h
  split at h
  · exact .inl (Option.some.inj h)
  · next hfirst =>
    have hfirst' := Bool.eq_false_iff.2 hfirst
    split at h
    · exact .inr (.inl ⟨Option.some.inj h, hfirst'⟩)
    · next hsecond =>
      split at h
      · exact .inr (.inr ⟨Option.some.inj h, hfirst', Bool.eq_false_iff.2 hsecond⟩)
      · cases h

theorem Ring.eq_of_source {r q : Ring} (h : r.source = q.source) : r = q := by
  cases r <;> cases q <;> simp_all [Ring.source]

theorem State.picks_of_ring {s : State} {seen : Source → Bool} {r : Ring} (hfetch : seen .fetch = false) (hrecord : seen .record = false)
    (hpriority : seen .priority = false) (h : pickRing seen s.pointer = some r) : s.Picks seen r.source where
  stands := pickRing_visible h
  fetch hx := by cases r <;> cases hx
  record hx := by cases r <;> cases hx
  noControl _ _ := ⟨hfetch, hrecord⟩
  noPriority _ := hpriority
  path hx := by
    obtain rfl : r = .path := Ring.eq_of_source hx
    have hring := pickRing_eq_some h
    constructor <;> intro hpointer <;> rw [hpointer] at hring <;> simpa [Ring.next, Ring.source] using hring
  ordinary hx := by
    obtain rfl : r = .ordinary := Ring.eq_of_source hx
    have hring := pickRing_eq_some h
    constructor <;> intro hpointer <;> rw [hpointer] at hring <;> simpa [Ring.next, Ring.source] using hring
  fill hx := by
    obtain rfl : r = .fill := Ring.eq_of_source hx
    have hring := pickRing_eq_some h
    constructor <;> intro hpointer <;> rw [hpointer] at hring <;> simpa [Ring.next, Ring.source] using hring

theorem State.pickControl_picks {s : State} {seen : Source → Bool} {x : Source} (h : s.pickControl seen = some x) : s.Picks seen x := by
  unfold State.pickControl at h
  split at h
  · next hfetch hrecord =>
    cases hfirst : s.fetchFirst <;> simp only [hfirst] at h <;> cases h <;> constructor <;> simp_all
  · next hfetch hrecord => cases h; constructor <;> simp_all
  · next hfetch hrecord => cases h; constructor <;> simp_all
  · cases h

theorem State.pick_picks {s : State} {seen : Source → Bool} {x : Source} (h : s.pick seen = some x) : s.Picks seen x := by
  unfold State.pick at h
  split at h
  · next hcontrol => cases h; exact State.pickControl_picks hcontrol
  · next hcontrol =>
    obtain ⟨hfetch, hrecord⟩ : seen .fetch = false ∧ seen .record = false := by
      unfold State.pickControl at hcontrol
      split at hcontrol <;> simp_all
    split at h
    · next hpriority => cases h; constructor <;> simp_all
    · next hpriority =>
      obtain ⟨r, hr, rfl⟩ := Option.map_eq_some_iff.1 h
      exact State.picks_of_ring hfetch hrecord (Bool.eq_false_iff.2 hpriority) hr

/-! ### What a grant puts in flight (R150) -/

/-- The source a burst in flight was granted to. -/
def Origin.source : Origin → Source
  | .fetch => .fetch
  | .record => .record
  | .priority _ _ => .priority
  | .path _ _ => .path
  | .ordinary _ _ => .ordinary
  | .fill => .fill

theorem State.grant_source {s : State} {x : Source} (h : s.stands x = true) {f : Flight} (hf : (s.grant x).port = some f) :
    f.origin.source = x := by
  cases x with
  | fetch =>
    simp only [State.stands, State.fetchStands] at h
    simp only [State.grant, State.grantFetch] at hf
    split at hf
    · next hl => simp [hl] at h
    · cases hf; rfl
  | record => cases hf; rfl
  | priority =>
    simp only [State.grant, State.grantPriority] at hf
    split at hf
    · next hq => simp [State.stands, hq] at h
    · cases hf; rfl
  | path =>
    simp only [State.grant, State.grantPath] at hf
    split at hf
    · next hq => simp [State.stands, hq] at h
    · cases hf; rfl
  | ordinary =>
    simp only [State.grant, State.grantOrdinary] at hf
    split at hf
    · next hq => simp [State.stands, hq] at h
    · cases hf; rfl
  | fill =>
    simp only [State.stands, State.fillStands] at h
    simp only [State.grant, State.grantFill] at hf
    split at hf
    · next hb => simp [hb] at h
    · cases hf; rfl

theorem State.grant_fetch_pointer (s : State) : (s.grant .fetch).pointer = s.pointer := by
  simp only [State.grant, State.grantFetch]
  split <;> rfl

theorem State.grant_priority_pointer (s : State) : (s.grant .priority).pointer = s.pointer := by
  simp only [State.grant, State.grantPriority]
  split <;> rfl

theorem State.grant_path_pointer {s : State} (h : s.stands .path = true) : (s.grant .path).pointer = .ordinary := by
  simp only [State.grant, State.grantPath]
  split
  · next hq => simp [State.stands, hq] at h
  · rfl

theorem State.grant_ordinary_pointer {s : State} (h : s.stands .ordinary = true) : (s.grant .ordinary).pointer = .fill := by
  simp only [State.grant, State.grantOrdinary]
  split
  · next hq => simp [State.stands, hq] at h
  · rfl

theorem State.grant_fill_pointer {s : State} (h : s.stands .fill = true) : (s.grant .fill).pointer = .path := by
  simp only [State.stands, State.fillStands] at h
  simp only [State.grant, State.grantFill]
  split
  · next hb => simp [hb] at h
  · rfl

theorem State.grant_freeCount (s : State) (x : Source) : (s.grant x).freeCount = s.freeCount := by
  cases x
  case record => rfl
  all_goals
    simp only [State.grant, State.grantFetch, State.grantPriority, State.grantPath, State.grantOrdinary, State.grantFill]
    split <;> rfl

theorem State.choicePoint_freeCount (s : State) : s.choicePoint.freeCount = s.freeCount := by
  unfold State.choicePoint
  split
  · rfl
  · unfold State.grantPick
    split
    · rfl
    · exact s.grant_freeCount _

/-- A choice point that puts a burst in flight is the grant of the source picked. -/
theorem State.choicePoint_granted {s : State} (hport : s.port = none) {f : Flight} (hf : s.choicePoint.port = some f) :
    s.Picks s.stands f.origin.source ∧ s.choicePoint = s.grant f.origin.source := by
  rw [State.choicePoint_of_port_none hport] at hf ⊢
  match hx : s.pick s.stands with
  | none => rw [hx] at hf; simp [State.grantPick, hport] at hf
  | some x =>
    rw [hx] at hf
    have hpicks := State.pick_picks hx
    rw [State.grant_source hpicks.stands hf]
    exact ⟨hpicks, rfl⟩

/-! ### The choice point of a completion (log 5, log 6, log 8) -/

theorem State.completionChoice_of_none {before s : State} (h : ∀ x, State.seenAtCompletion before s x = false) :
    State.completionChoice before s = { s.choicePoint with freeCount := s.freeCount + 1 } := by
  rw [State.completionChoice, (s.pick_eq_none_iff _).2 h, ← s.choicePoint_freeCount]
  exact rfl

theorem State.completionChoice_of_seen {before s : State} (h : ∃ x, State.seenAtCompletion before s x = true) :
    ∃ x, s.Picks (State.seenAtCompletion before s) x ∧
      State.completionChoice before s = { s.grant x with freeCount := s.freeCount + 1 } := by
  obtain ⟨y, hy⟩ := h
  match hx : s.pick (State.seenAtCompletion before s) with
  | none => simp [(s.pick_eq_none_iff _).1 hx y] at hy
  | some x =>
    refine ⟨x, State.pick_picks hx, ?_⟩
    rw [State.completionChoice, hx, ← s.grant_freeCount x]
    exact rfl

/-- The order of the control offers is free only where both began in the step. -/
theorem State.orderOffers_of_not_both {before s : State}
    (h : ¬(s.fetchStands = true ∧ s.recordStands = true ∧ before.fetchStands = false ∧ before.recordStands = false)) :
    State.orderOffers before s = s := if_neg (by simpa [and_assoc] using h)

/-- Settles O34: a choice point grants what is picked among the offers seen, and the order of two new control offers is all that is free. -/
theorem choicePointGrantsInOrder : Obligations.ChoicePointGrantsInOrder := by
  refine ⟨fun s hport => ⟨fun f hf => ?granted, ?idle⟩, fun s => ⟨s.grant_fetch_pointer, rfl, s.grant_priority_pointer⟩,
    fun before s => ⟨fun x hx => ?unseen, fun x hbefore hstands hname hordinary => ?seen, fun hpriority => ?passed,
      State.completionChoice_of_none, fun hseen => ?completion⟩, fun before s => ⟨?order, State.orderOffers_of_not_both⟩⟩
  case granted =>
    obtain ⟨hpicks, hgrant⟩ := State.choicePoint_granted hport hf
    refine ⟨fun ho => ?_, fun ho => ?_, ?_, fun hring => ?_⟩
    · rw [ho] at hpicks
      exact ⟨hpicks.stands, hpicks.fetch rfl⟩
    · rw [ho] at hpicks
      exact ⟨hpicks.stands, hpicks.record rfl⟩
    · rintro ⟨id, key, ho⟩
      rw [ho] at hpicks
      exact hpicks.noControl nofun nofun
    · have hsource : f.origin.source = .path ∨ f.origin.source = .ordinary ∨ f.origin.source = .fill := by
        obtain ⟨id, key, ho⟩ | ⟨id, kind, ho⟩ | ho := hring <;> rw [ho]
        exacts [.inr (.inl rfl), .inl rfl, .inr (.inr rfl)]
      obtain ⟨hfetch, hrecord⟩ := hpicks.noControl (by rintro h; simp [h] at hsource) (by rintro h; simp [h] at hsource)
      refine ⟨hfetch, hrecord, hpicks.noPriority hsource, ?_, ?_, fun ho => ?_⟩
      · rintro ⟨id, kind, ho⟩
        rw [ho] at hpicks hgrant
        rw [hgrant]
        exact ⟨State.grant_path_pointer hpicks.stands, hpicks.path rfl⟩
      · rintro ⟨id, key, ho⟩
        rw [ho] at hpicks hgrant
        rw [hgrant]
        exact ⟨State.grant_ordinary_pointer hpicks.stands, hpicks.ordinary rfl⟩
      · rw [ho] at hpicks hgrant
        rw [hgrant]
        exact ⟨State.grant_fill_pointer hpicks.stands, hpicks.fill rfl⟩
  case idle =>
    refine ⟨fun hidle => ?_, fun hnone => ?_⟩
    · obtain ⟨hsame, hneverIdle⟩ := State.choicePoint_idle hidle
      exact hneverIdle hport
    · rw [State.choicePoint_of_port_none hport, (s.pick_eq_none_iff _).2 hnone]
      exact hport
  case unseen => simp [State.seenAtCompletion, hx]
  case seen =>
    simpa [State.seenAtCompletion, hbefore, hstands, hname] using hordinary
  case passed => simp [State.seenAtCompletion, hpriority]
  case completion =>
    obtain ⟨x, hpicks, hchoice⟩ := State.completionChoice_of_seen hseen
    exact ⟨x, hpicks.stands, hchoice, hpicks.fetch, hpicks.record, hpicks.noControl, hpicks.noPriority, hpicks.path, hpicks.ordinary,
      hpicks.fill⟩
  case order => exact State.orderOffers_eq before _

end Sys2Proof.Machine
end

section
/-! Bursts that have completed (R150, R154): the bytes they leave in memory, and what their sources are told. -/

namespace Sys2Proof.Machine

/-! ### Memory after a write burst (R150) -/

namespace Memory

theorem read_writeMasked_or (a : Nat) (x : Option Byte) (m : Memory) (h : a < 4294967296) :
    read a (writeMasked a x m) = x.or (read a m) := by
  rw [read_writeMasked_same a x m h]
  cases x <;> rfl

theorem read_writeLane_same {a j : Nat} (hj : j < 4) (l : MaskedLane) (m : Memory) (h : a + j < 4294967296) :
    read (a + j) (writeLane a l m) = (l.get j).or (read (a + j) m) := by
  unfold writeLane
  match j, hj with
  | 0, _ =>
    rw [read_writeMasked_other _ _ _ _ (by omega), read_writeMasked_other _ _ _ _ (by omega), read_writeMasked_other _ _ _ _ (by omega)]
    exact read_writeMasked_or a l.e0 m h
  | 1, _ =>
    rw [read_writeMasked_other _ _ _ _ (by omega), read_writeMasked_other _ _ _ _ (by omega), read_writeMasked_or _ _ _ h,
      read_writeMasked_other _ _ _ _ (by omega)]
    rfl
  | 2, _ =>
    rw [read_writeMasked_other _ _ _ _ (by omega), read_writeMasked_or _ _ _ h, read_writeMasked_other _ _ _ _ (by omega),
      read_writeMasked_other _ _ _ _ (by omega)]
    rfl
  | 3, _ =>
    rw [read_writeMasked_or _ _ _ h, read_writeMasked_other _ _ _ _ (by omega), read_writeMasked_other _ _ _ _ (by omega),
      read_writeMasked_other _ _ _ _ (by omega)]
    rfl

theorem read_writeBeat_same {a k j : Nat} (hk : k < 4) (hj : j < 4) (x : MaskedBeat) (m : Memory) (h : a + 4 * k + j < 4294967296) :
    read (a + 4 * k + j) (writeBeat a x m) = ((x.get k).get j).or (read (a + 4 * k + j) m) := by
  unfold writeBeat
  match k, hk with
  | 0, _ =>
    rw [read_writeLane_other _ _ _ _ (by omega), read_writeLane_other _ _ _ _ (by omega), read_writeLane_other _ _ _ _ (by omega)]
    exact read_writeLane_same hj x.e0 m h
  | 1, _ =>
    rw [read_writeLane_other _ _ _ _ (by omega), read_writeLane_other _ _ _ _ (by omega), read_writeLane_same hj _ _ h,
      read_writeLane_other _ _ _ _ (by omega)]
    rfl
  | 2, _ =>
    rw [read_writeLane_other _ _ _ _ (by omega), read_writeLane_same hj _ _ h, read_writeLane_other _ _ _ _ (by omega),
      read_writeLane_other _ _ _ _ (by omega)]
    rfl
  | 3, _ =>
    rw [read_writeLane_same hj _ _ h, read_writeLane_other _ _ _ _ (by omega), read_writeLane_other _ _ _ _ (by omega),
      read_writeLane_other _ _ _ _ (by omega)]
    rfl

/-- Every enabled byte of a burst is in memory, and under a clear enable the byte that stood. -/
theorem read_writeBeats_same (beats : List MaskedBeat) {a n k j : Nat} (hn : n < beats.length) (hk : k < 4) (hj : j < 4) (m : Memory)
    (h : a + 16 * n + 4 * k + j < 4294967296) :
    read (a + 16 * n + 4 * k + j) (writeBeats a beats m) =
      (((beats.getD n Collector.emptyBeat).get k).get j).or (read (a + 16 * n + 4 * k + j) m) := by
  induction beats generalizing a n m with
  | nil => cases hn
  | cons x rest ih =>
    cases n with
    | zero =>
      rw [writeBeats, read_writeBeats_other _ _ _ _ (by omega), Nat.mul_zero, Nat.add_zero]
      exact read_writeBeat_same hk hj x m h
    | succ n =>
      have hplace : a + 16 * (n + 1) + 4 * k + j = a + 16 + 16 * n + 4 * k + j := by omega
      rw [hplace] at h ⊢
      rw [writeBeats, ih (Nat.lt_of_succ_lt_succ hn) _ h, read_writeBeat_other _ _ _ _ (by omega)]
      rfl

end Memory

/-! ### What a completion leaves alone -/

/-- The parts of the link side that no completion touches. -/
structure LinkSide where
  pins : Pins
  front : FrontEnd
  inbound : List Request

def State.linkSide (s : State) : LinkSide where
  pins := s.pins
  front := s.front
  inbound := s.inbound

theorem State.linkSide_of_kept {s t : State} (h : t.kept = s.kept) : t.linkSide = s.linkSide := by
  have hpins := congrArg Kept.pins h
  have hfront := congrArg Kept.front h
  have hinbound := congrArg Kept.inbound h
  simp only [State.kept] at hpins hfront hinbound
  rw [State.linkSide, hpins, hfront, hinbound, State.linkSide]

theorem State.endLoad_linkSide (s : State) (x : Slot) (i : Fin 8) (r : Result) : (s.endLoad x i r).linkSide = s.linkSide :=
  (State.linkSide_of_kept ((State.report_kept _ _).trans (State.recordCause_kept _))).trans rfl

theorem State.recordFetched_linkSide (s : State) (l : Load) : (s.recordFetched l).linkSide = s.linkSide := by
  unfold State.recordFetched
  dsimp only
  split
  · rfl
  · exact s.endLoad_linkSide _ _ _
  · exact s.endLoad_linkSide _ _ _

theorem State.offerRecord_kept (s : State) : s.offerRecord.kept = s.kept := by
  unfold State.offerRecord
  split <;> rfl

theorem State.recordWritten_kept (s : State) : s.recordWritten.kept = s.kept := by
  unfold State.recordWritten
  split
  · rfl
  · exact s.offerRecord_kept
  all_goals rfl

theorem State.noteDrains_linkSide (s : State) : s.noteDrains.linkSide = s.linkSide := by
  unfold State.noteDrains
  split <;> rfl

theorem State.placeRead_linkSide (s : State) (job : ReadJob) : (s.placeRead job).linkSide = s.linkSide := by
  unfold State.placeRead
  split
  · rfl
  · exact State.linkSide_of_kept (State.enquire_kept _ _)

theorem State.releaseRead_linkSide (s : State) (id : Nat) : (s.releaseRead id).linkSide = s.linkSide := by
  unfold State.releaseRead
  split
  · split
    · split
      · exact s.placeRead_linkSide _
      · rfl
    · rfl
  all_goals rfl

theorem State.flushWritten_linkSide (s : State) (id : Nat) : (s.flushWritten id).linkSide = s.linkSide :=
  (State.releaseRead_linkSide _ _).trans (State.noteDrains_linkSide _)

theorem State.segmentWritten_linkSide (s : State) (id : Nat) : (s.segmentWritten id).linkSide = s.linkSide := by
  have hclear : (s.clearOutstanding id).linkSide = s.linkSide := by
    unfold State.clearOutstanding
    split <;> rfl
  refine Eq.trans ?_ hclear
  unfold State.segmentWritten State.noteSegment
  split <;> rfl

theorem State.reportCompletion_linkSide (s : State) (f : Flight) : (s.reportCompletion f).linkSide = s.linkSide := by
  unfold State.reportCompletion
  split
  · split
    · unfold State.fetchComplete
      split
      · rfl
      · exact s.recordFetched_linkSide _
    · exact State.linkSide_of_kept s.recordWritten_kept
    · exact s.flushWritten_linkSide _
    · exact s.flushWritten_linkSide _
    · split
      · exact s.segmentWritten_linkSide _
      · rfl
    · exact State.linkSide_of_kept (congrArg OffFill.kept s.fillWritten_fillSteps.offFill)
  · rfl

/-- What a completion and the end of its step leave of the link side, the tracker and the frame; memory has what landed. -/
theorem State.concludeCompletion_completeFlight (s : State) (f : Flight) :
    (State.concludeCompletion s (s.completeFlight f)).linkSide = s.linkSide ∧
      (State.concludeCompletion s (s.completeFlight f)).tracker = s.tracker ∧
      (State.concludeCompletion s (s.completeFlight f)).mem = s.landed f := by
  have hkept := State.concludeCompletion_kept s (s.completeFlight f)
  have hown : (s.completeFlight f).own = ({ s with port := none, mem := s.landed f } : State).own := State.reportCompletion_own _ f
  exact ⟨(State.linkSide_of_kept hkept).trans (State.reportCompletion_linkSide _ f),
    (congrArg Kept.tracker hkept).trans (congrArg Own.tracker hown), (congrArg Kept.mem hkept).trans (congrArg Own.mem hown)⟩

theorem exec_burstComplete {s : State} {f : Flight} (hport : s.port = some f) (hmay : f.mayComplete = true) :
    exec .burstComplete s = .next (State.concludeCompletion s (s.completeFlight f)) := by
  refine exec_of_completed ?_
  simp only [act, actBurstComplete, hport, if_pos hmay]

theorem Flight.mayComplete_of_write {f : Flight} (h : f.payload.isWrite = true) : f.mayComplete = true := by
  rw [Flight.mayComplete, h, Bool.true_or]

theorem Flight.mayComplete_of_read {f : Flight} {beats : List EnableBeat} (h : f.payload = .read beats) :
    f.mayComplete = decide (f.moved = beats.length) := by
  rw [Flight.mayComplete, h]
  rfl

/-- Settles O29: the completion leaves in memory what landed, and of the rest only its source is told. -/
theorem finishedBurstCompletes : Obligations.FinishedBurstCompletes := by
  refine ⟨fun s f beats hport hpayload => ?write, fun s f beats hport hpayload => ⟨fun hdone => ?read, fun hmore => ?early⟩⟩
  case write =>
    obtain ⟨hside, htracker, hmem⟩ := s.concludeCompletion_completeFlight f
    have hlanded : s.landed f = Memory.writeBeats f.addr beats s.mem := by rw [State.landed, hpayload]
    refine ⟨_, exec_burstComplete hport (Flight.mayComplete_of_write (by rw [hpayload]; rfl)), fun a ha => ?_,
      fun n k j hn hk hj hspace => ?_,
      congrArg LinkSide.pins hside, congrArg LinkSide.front hside, congrArg LinkSide.inbound hside, htracker⟩
    · rw [hmem, hlanded, Memory.read_writeBeats_other _ _ _ _ ha]
    · rw [hmem, hlanded, Memory.read_writeBeats_same beats hn hk hj s.mem hspace]
      cases ((beats.getD n Collector.emptyBeat).get k).get j <;> rfl
  case read =>
    obtain ⟨hside, _, hmem⟩ := s.concludeCompletion_completeFlight f
    refine ⟨_, exec_burstComplete hport ?_, ?_, congrArg LinkSide.inbound hside⟩
    · rw [Flight.mayComplete_of_read hpayload, hdone, decide_eq_true rfl]
    · rw [hmem, State.landed, hpayload]
  case early =>
    refine exec_of_still ?_
    simp only [act, actBurstComplete, hport, Flight.mayComplete_of_read hpayload, hmore, decide_false]
    rfl

/-! ### What the end of a completion's step leaves alone -/

theorem State.completionChoice_planes (before s : State) : (State.completionChoice before s).planes = s.planes :=
  congrArg OffGrant.planes (State.completionChoice_offGrant before s)

theorem State.orderOffers_planes (before s : State) : (State.orderOffers before s).planes = s.planes :=
  congrArg OffGrant.planes (State.orderOffers_offGrant before s)

theorem State.orderOffers_translator (before s : State) : (State.orderOffers before s).translator = s.translator :=
  congrArg OffGrant.translator (State.orderOffers_offGrant before s)

theorem State.concludeCompletion_planes {before s : State} (h : s.swapDue = none) :
    (State.concludeCompletion before s).planes = s.planes := by
  rw [State.concludeCompletion, State.orderOffers_planes, State.retryInsert_planes, State.completionChoice_planes,
    State.retryInsert_planes, State.settleSwaps_succ_none h]

theorem State.waitingInsert_congr {s t : State} (h : t.translator = s.translator) : t.waitingInsert = s.waitingInsert := by
  rw [State.waitingInsert, State.waitingInsert, h]

/-- Where no insert waits the translator is left to its own rows. -/
theorem State.concludeCompletion_translator {before s : State} (h : s.waitingInsert = none) :
    (State.concludeCompletion before s).translator = s.translator := by
  have hswaps : (State.settleSwaps 2 s).translator = s.translator := congrArg Beside.translator (State.settleSwaps_steps 2 s).beside
  have hchoice (u : State) : (State.completionChoice before u).translator = u.translator :=
    congrArg OffGrant.translator (State.completionChoice_offGrant before u)
  rw [State.concludeCompletion, State.orderOffers_translator,
    State.retryInsert_of_waitingInsert_none (s := State.settleSwaps 2 s) ((State.waitingInsert_congr hswaps).trans h),
    State.retryInsert_of_waitingInsert_none ((State.waitingInsert_congr ((hchoice _).trans hswaps)).trans h), hchoice, hswaps]

/-! ### What the sources are told (R10, R61, R89, R104) -/

theorem State.completeFlight_unwanted {s : State} {f : Flight} (h : f.wanted = false) :
    s.completeFlight f = { s with port := none, mem := s.landed f } := if_neg (by simp [h])

theorem State.completeFlight_path {s : State} {f : Flight} {id : Nat} {kind : SegmentKind} (horigin : f.origin = .path id kind)
    (hwrite : f.payload.isWrite = true) (h : f.wanted = true) :
    s.completeFlight f = State.segmentWritten { s with port := none, mem := s.landed f } id := by
  rw [State.completeFlight, State.reportCompletion, if_pos h, horigin]
  exact if_pos hwrite

theorem State.completeFlight_flush {s : State} {f : Flight} {id : Nat} {key : Key}
    (horigin : f.origin = .priority id key ∨ f.origin = .ordinary id key) (h : f.wanted = true) :
    s.completeFlight f = State.flushWritten { s with port := none, mem := s.landed f } id := by
  rw [State.completeFlight, State.reportCompletion, if_pos h]
  obtain horigin | horigin := horigin <;> rw [horigin]

theorem State.completeFlight_frame (s : State) (f : Flight) : (s.completeFlight f).frame = s.frame :=
  congrArg Own.frame (State.reportCompletion_own _ f)

theorem State.noteSegment_mailboxOutstanding (s : State) (id : Nat) : (s.noteSegment id).mailboxOutstanding = s.mailboxOutstanding := by
  unfold State.noteSegment
  split <;> rfl

theorem State.segmentWritten_mailboxOutstanding (s : State) (id : Nat) :
    (s.segmentWritten id).mailboxOutstanding = if s.mailboxOutstanding = some id then none else s.mailboxOutstanding := by
  rw [State.segmentWritten, State.noteSegment_mailboxOutstanding, State.clearOutstanding]
  split <;> rfl

theorem State.segmentWritten_switch {s : State} {r : ArmRecord} (h : s.planes.switch = .armed r) (id : Nat) :
    (s.segmentWritten id).planes.switch = .armed { r with pathWaiting := r.pathWaiting.filter (· ≠ id) } := by
  have hclear : (s.clearOutstanding id).planes.switch = .armed r := by
    unfold State.clearOutstanding
    split <;> exact h
  rw [State.segmentWritten, State.noteSegment, hclear]
  rfl

theorem State.releaseRead_planes (s : State) (id : Nat) : (s.releaseRead id).planes = s.planes := by
  unfold State.releaseRead
  split
  · split
    · split
      · unfold State.placeRead
        split
        · rfl
        · exact congrArg Aside.planes (State.enquire_pathSteps _ _).aside
      · rfl
    · rfl
  all_goals rfl

theorem State.noteDrains_translator (s : State) : s.noteDrains.translator = s.translator := by
  unfold State.noteDrains
  split <;> rfl

theorem State.noteDrains_outQueue (s : State) : s.noteDrains.outQueue = s.outQueue := by
  unfold State.noteDrains
  split <;> rfl

theorem State.flushWritten_switch {s : State} {r : ArmRecord} (h : s.planes.switch = .armed r) (id : Nat) :
    (s.flushWritten id).planes.switch = .armed
      { r with
        collectorWaiting := r.collectorWaiting && (s.collector.leaveDrains fun x => decide (x = id)).draining r.commit } := by
  rw [State.flushWritten, State.releaseRead_planes, State.noteDrains]
  simp only [h]
  rfl

/-- R61: a held read that still waits for a write stays held. -/
theorem State.releaseRead_holds {s : State} {job : ReadJob} {matched : List Nat} {id : Nat} (h : s.translator = .readHeld job matched)
    (hleft : matched.filter (· ≠ id) ≠ []) : (s.releaseRead id).translator = .readHeld job (matched.filter (· ≠ id)) := by
  rw [State.releaseRead, h]
  dsimp only
  split
  · next hnone => exact absurd hnone hleft
  · rfl

/-- R61: of a held read its last segment is placed, and its data waited for. -/
theorem State.releaseRead_places_last {s : State} {job : ReadJob} {matched : List Nat} {id : Nat} {p : PlanSegment}
    (h : s.translator = .readHeld job matched) (hleft : matched.filter (· ≠ id) = []) (hplan : job.plan = [p])
    (hroom : s.outQueue.length < 16) : (s.releaseRead id).translator = .readWait { job with plan := [] } := by
  rw [State.releaseRead, h]
  dsimp only
  rw [hleft]
  dsimp only
  rw [if_pos (show s.outputRoom = true from decide_eq_true hroom), State.placeRead, hplan]
  rfl

/-- Settles O30: each source is told by its own rule, and the end of the step leaves what it was told. -/
theorem writtenBurstIsReported : Obligations.WrittenBurstIsReported := by
  refine ⟨fun s f id kind hport horigin hwrite => ?segment, fun s f id key hport hwanted hwrite horigin => ?flush⟩
  case segment =>
    have hstill (hscan : s.frame.scanStopped = false) :
        (State.concludeCompletion s (s.completeFlight f)).planes = (s.completeFlight f).planes :=
      State.concludeCompletion_planes (State.swapDue_of_scanning (by rw [State.completeFlight_frame]; exact hscan))
    refine ⟨_, exec_burstComplete hport (Flight.mayComplete_of_write hwrite),
      (congrArg Kept.mailboxOutstanding (State.concludeCompletion_kept _ _)).trans ?_, fun r hwanted harmed hscan => ?_,
      fun hunwanted hscan => ?_⟩
    · cases hwanted : f.wanted with
      | false =>
        rw [if_neg (by simp), State.completeFlight_unwanted hwanted]
        rfl
      | true =>
        rw [State.completeFlight_path horigin hwrite hwanted]
        refine (State.segmentWritten_mailboxOutstanding _ id).trans ?_
        simp
    · rw [hstill hscan, State.completeFlight_path horigin hwrite hwanted]
      exact State.segmentWritten_switch (s := { s with port := none, mem := s.landed f }) harmed id
    · rw [hstill hscan, State.completeFlight_unwanted hunwanted]
  case flush =>
    let u : State := { s with port := none, mem := s.landed f }
    have hcomplete : s.completeFlight f = u.flushWritten id := State.completeFlight_flush horigin hwanted
    have hdrains : State.translator (State.noteDrains { u with collector := u.collector.leaveDrains fun x => decide (x = id) }) =
        s.translator := State.noteDrains_translator _
    refine ⟨_, exec_burstComplete hport (Flight.mayComplete_of_write hwrite), fun r harmed hscan => ?_, fun job matched hheld hleft => ?_,
      fun job matched p hheld hleft hplan hroom => ?_⟩
    · refine ⟨{ r with collectorWaiting := r.collectorWaiting && (s.collector.leaveDrains fun x => decide (x = id)).draining r.commit },
        ?_, rfl⟩
      rw [State.concludeCompletion_planes (State.swapDue_of_scanning (by rw [State.completeFlight_frame]; exact hscan)), hcomplete]
      exact State.flushWritten_switch (s := u) harmed id
    · have htranslator : (s.completeFlight f).translator = .readHeld job (matched.filter (· ≠ id)) := by
        rw [hcomplete]
        exact State.releaseRead_holds (hdrains.trans hheld) hleft
      rw [State.concludeCompletion_translator (by rw [State.waitingInsert, htranslator]), htranslator]
    · have htranslator : (s.completeFlight f).translator = .readWait { job with plan := [] } := by
        rw [hcomplete]
        exact State.releaseRead_places_last (hdrains.trans hheld) hleft hplan (by rw [State.noteDrains_outQueue]; exact hroom)
      rw [State.concludeCompletion_translator (by rw [State.waitingInsert, htranslator]), htranslator]

end Sys2Proof.Machine
end

section
/-! The collector at work on its table: ordinary flushes asked (R84, R86) and inserts (R80 to R83, R91). -/

namespace Sys2Proof.Machine

namespace Collector

/-! ### Ordinary flushes asked (R86) -/

/-- How many entries asked now leave at once: none while another waits, and else as many as the ordinary queue has places for. -/
def flushRoom (c : Collector) : Nat := if c.asked = [] then 16 - c.ordinary.length else 0

/-- An entry has the name of one of some entries. -/
def among (es : List Entry) (e : Entry) : Bool := es.any fun x => decide (e.id = x.id)

/-- Entries leave the table for the tail of the ordinary queue. -/
def leaveAll (c : Collector) (es : List Entry) : Collector :=
  { c with table := c.table.filter fun e => !among es e, ordinary := c.ordinary ++ es.map Entry.toWrite }

/-- Entries stand as ORDINARY-WAITING behind those asked before. -/
def waitAll (c : Collector) (es : List Entry) : Collector :=
  { c with
    table := c.table.map fun e => if among es e then { e with flush := .ordinaryWaiting } else e
    asked := c.asked ++ es.map (·.id) }

@[simp] theorem among_nil (e : Entry) : among [] e = false := rfl

@[simp] theorem among_cons (x : Entry) (es : List Entry) (e : Entry) : among (x :: es) e = (decide (e.id = x.id) || among es e) := rfl

theorem among_iff {es : List Entry} {e : Entry} : among es e = true ↔ ∃ x ∈ es, e.id = x.id := by simp [among]

/-- The two conditions of an ordinary flush that is carried out at once. -/
theorem flushesNow_iff (c : Collector) : (c.ordinaryRoom && c.asked.isEmpty) = true ↔ 0 < c.flushRoom := by
  unfold flushRoom ordinaryRoom
  simp only [Bool.and_eq_true, decide_eq_true_iff, List.isEmpty_iff, show Config.flushPlaces = 16 from rfl]
  split
  · next h => simp [h]
  · next h => simp [h]

section
variable {c : Collector} {e : Entry} (h : c.entryNamed e.id = some e) (hheld : e.flush = .held)
include h hheld

theorem askOrdinary_leaves (hroom : 0 < c.flushRoom) : c.askOrdinary e.id = c.leaveAll [e] := by
  have hasked : c.asked = [] := by
    by_contra hne
    simp [flushRoom, hne] at hroom
  rw [askOrdinary, h]
  dsimp only
  rw [hheld]
  dsimp only
  rw [if_pos (c.flushesNow_iff.2 hroom), leaveOrdinary, h]
  simp [dropEntry, leaveAll, hasked]

theorem askOrdinary_waits (hroom : c.flushRoom = 0) : c.askOrdinary e.id = c.waitAll [e] := by
  rw [askOrdinary, h]
  dsimp only
  rw [hheld]
  dsimp only
  rw [if_neg (mt c.flushesNow_iff.1 (by omega))]
  simp [setFlush, waitAll]

end

theorem leaveAll_flushRoom {c : Collector} (e : Entry) : (c.leaveAll [e]).flushRoom = c.flushRoom - 1 := by
  unfold flushRoom leaveAll
  dsimp only
  split
  · rw [List.length_append]
    simp
    omega
  · rfl

theorem waitAll_flushRoom {c : Collector} (e : Entry) : (c.waitAll [e]).flushRoom = 0 := by
  unfold flushRoom waitAll
  simp

theorem leaveAll_cons (c : Collector) (e : Entry) (es : List Entry) : (c.leaveAll [e]).leaveAll es = c.leaveAll (e :: es) := by
  simp [leaveAll, List.filter_filter, Bool.and_comm]

theorem waitAll_cons (c : Collector) (e : Entry) (es : List Entry) : (c.waitAll [e]).waitAll es = c.waitAll (e :: es) := by
  simp only [waitAll, List.map_map, List.append_assoc, List.map_cons, List.map_nil, List.singleton_append]
  congr 1
  refine List.map_congr_left fun x _ => ?_
  simp only [Function.comp_apply, among_cons, among_nil, Bool.or_false]
  by_cases hx : x.id = e.id
  · simp [hx]
  · simp [hx]

theorem leaveAll_nil (c : Collector) : c.leaveAll [] = c := by simp [leaveAll]

theorem waitAll_nil (c : Collector) : c.waitAll [] = c := by simp [waitAll]

/-- Flushes asked of HELD entries one after another: the first that there is room for leave, and the rest wait in their order. -/
theorem askEach_eq {c : Collector} (hids : (c.table.map (·.id)).Nodup) {es : List Entry} (hes : ∀ e ∈ es, e ∈ c.table ∧ e.flush = .held)
    (hnodup : (es.map (·.id)).Nodup) :
    c.askEach (es.map (·.id)) = (c.leaveAll (es.take c.flushRoom)).waitAll (es.drop c.flushRoom) := by
  induction es generalizing c with
  | nil => simp [leaveAll_nil, waitAll_nil, askEach]
  | cons e rest ih =>
    obtain ⟨hmem, hheld⟩ := hes e List.mem_cons_self
    have hnamed := entryNamed_of_mem hids hmem
    simp only [List.map_cons, List.nodup_cons] at hnodup
    obtain ⟨hfresh, hrest⟩ := hnodup
    have hne (x : Entry) (hx : x ∈ rest) : x.id ≠ e.id := fun heq => hfresh (heq ▸ List.mem_map_of_mem hx)
    rw [List.map_cons, askEach]
    rcases Nat.eq_zero_or_pos c.flushRoom with hroom | hroom
    · rw [askOrdinary_waits hnamed hheld hroom, ih, waitAll_flushRoom, hroom]
      · simp only [List.take_zero, List.drop_zero, leaveAll_nil, waitAll_cons]
      · refine List.Nodup.of_map id ?_
        have hsame : ((c.waitAll [e]).table.map (·.id)) = c.table.map (·.id) := by
          unfold waitAll
          rw [List.map_map]
          refine List.map_congr_left fun x _ => ?_
          simp only [Function.comp_apply]
          split <;> rfl
        rw [hsame, List.map_id]
        exact hids
      · intro x hx
        obtain ⟨hx', hxheld⟩ := hes x (List.mem_cons_of_mem _ hx)
        exact ⟨List.mem_map.2 ⟨x, hx', if_neg (by simpa using hne x hx)⟩, hxheld⟩
      · exact hrest
    · obtain ⟨n, hn⟩ : ∃ n, c.flushRoom = n + 1 := ⟨_, (Nat.succ_pred_eq_of_pos hroom).symm⟩
      rw [askOrdinary_leaves hnamed hheld hroom, ih, leaveAll_flushRoom, hn, Nat.add_sub_cancel, leaveAll_cons]
      · rfl
      · exact (List.filter_sublist.map _).nodup hids
      · intro x hx
        obtain ⟨hx', hxheld⟩ := hes x (List.mem_cons_of_mem _ hx)
        exact ⟨List.mem_filter.2 ⟨hx', by simpa using hne x hx⟩, hxheld⟩
      · exact hrest

/-- In a table of distinct names an entry is one of some by its name. -/
theorem among_eq_decide {table es : List Entry} (hids : (table.map (·.id)).Nodup) (hes : ∀ e ∈ es, e ∈ table) {e : Entry}
    (he : e ∈ table) : among es e = decide (e ∈ es) := by
  refine Bool.eq_iff_iff.2 (among_iff.trans (Iff.trans ⟨?_, fun hmem => ⟨e, hmem, rfl⟩⟩ decide_eq_true_iff.symm))
  rintro ⟨x, hx, heq⟩
  exact List.inj_on_of_nodup_map hids he (hes x hx) heq ▸ hx

end Collector

/-! ### The age tick (R84) -/

/-- An entry one tick older. -/
def Entry.older (e : Entry) : Entry := { e with age := min 2 (e.age + 1) }

theorem Entry.map_older_id (es : List Entry) : (es.map Entry.older).map (·.id) = es.map (·.id) := by
  rw [List.map_map]
  exact rfl

theorem Entry.map_older_toWrite (es : List Entry) :
    (es.map Entry.older).map Entry.toWrite = es.map fun e => { id := e.id, key := e.key, data := e.data } := by
  rw [List.map_map]
  exact rfl

namespace Collector

/-- R84: the HELD entries that take age 2 at the next tick, oldest first. -/
def due (c : Collector) : List Entry := c.table.filter fun e => decide (e.age = 1 ∧ e.flush = .held)

theorem mem_of_due {c : Collector} {e : Entry} (h : e ∈ c.due) : e ∈ c.table ∧ e.flush = .held := by
  obtain ⟨hmem, hflush⟩ := List.mem_filter.1 h
  exact ⟨hmem, (of_decide_eq_true hflush).2⟩

/-- The collector with every entry one tick older. -/
def older (c : Collector) : Collector := { c with table := c.table.map Entry.older }

theorem ageTick_eq_askEach (c : Collector) : c.ageTick = c.older.askEach ((c.due.map Entry.older).map (·.id)) := by
  rw [Entry.map_older_id]
  simp only [ageTick, due, Bool.decide_and]
  exact rfl

theorem ageTick_eq_leave_wait {c : Collector} (hids : (c.table.map (·.id)).Nodup) :
    c.ageTick =
      (c.older.leaveAll ((c.due.take c.flushRoom).map Entry.older)).waitAll ((c.due.drop c.flushRoom).map Entry.older) := by
  rw [ageTick_eq_askEach, askEach_eq, List.map_take, List.map_drop]
  · exact rfl
  · exact (Entry.map_older_id _).symm ▸ hids
  · intro e he
    obtain ⟨x, hx, rfl⟩ := List.mem_map.1 he
    exact ⟨List.mem_map_of_mem (mem_of_due hx).1, (mem_of_due hx).2⟩
  · rw [Entry.map_older_id]
    exact (List.filter_sublist.map _).nodup hids

/-- Age is no part of a name. -/
theorem among_older {c : Collector} (hids : (c.table.map (·.id)).Nodup) {es : List Entry} (hes : ∀ x ∈ es, x ∈ c.due) {e : Entry}
    (he : e ∈ c.table) : among (es.map Entry.older) e.older = decide (e ∈ es) := by
  rw [← among_eq_decide hids (fun x hx => (mem_of_due (hes x hx)).1) he, among, List.any_map]
  exact rfl

/-- The entries that leave and those that wait are told apart in one pass over the table. -/
theorem older_leave_wait_table {c : Collector} (hids : (c.table.map (·.id)).Nodup) {leaving waiting : List Entry}
    (hleaving : ∀ x ∈ leaving, x ∈ c.due) (hwaiting : ∀ x ∈ waiting, x ∈ c.due) :
    ((c.older.leaveAll (leaving.map Entry.older)).waitAll (waiting.map Entry.older)).table =
      (c.table.filter fun e => decide (e ∉ leaving)).map fun e =>
        { e with age := min 2 (e.age + 1), flush := if e ∈ waiting then .ordinaryWaiting else e.flush } := by
  simp only [waitAll, leaveAll, older, List.filter_map, List.map_map]
  have hstays : c.table.filter ((fun e => !among (leaving.map Entry.older) e) ∘ Entry.older) =
      c.table.filter fun e => decide (e ∉ leaving) := by
    refine List.filter_congr fun e he => ?_
    rw [Function.comp_apply, among_older hids hleaving he, decide_not]
  rw [hstays]
  refine List.map_congr_left fun e he => ?_
  rw [Function.comp_apply, among_older hids hwaiting (List.mem_of_mem_filter he)]
  by_cases hwaits : e ∈ waiting
  · rw [if_pos (decide_eq_true hwaits), if_pos hwaits]
    rfl
  · rw [if_neg (by simpa using hwaits), if_neg hwaits]
    rfl

end Collector

/-- Settles O35: the due entries are asked in table order, and a flush changes neither name, key nor age. -/
theorem ageTickAgesTheTable : Obligations.AgeTickAgesTheTable := by
  refine fun s => ⟨fun htimer hids => ?_, fun hstopped => exec_of_still (if_neg (by simp [hstopped]))⟩
  intro due room leaving waiting
  have hact : act .ageTick s = .concluded { s with collector := s.collector.ageTick } := if_pos htimer
  refine (exec_of_concluded hact).trans (congrArg (fun c => Host.Outcome.next (State.conclude { s with collector := c })) ?_)
  have htable := Collector.older_leave_wait_table hids (leaving := leaving) (waiting := waiting) (fun _ => List.mem_of_mem_take)
    (fun _ => List.mem_of_mem_drop)
  rw [Collector.ageTick_eq_leave_wait hids, ← htable, ← Entry.map_older_toWrite, ← Entry.map_older_id waiting]
  exact rfl

/-! ### Inserts (R80 to R83, R91) -/

/-- Rectangles that cover one pixel share it. -/
theorem rectsMeet_of_covers {p q : Rect} {x y : Nat} (hp : p.covers x y = true) (hq : q.covers x y = true) : rectsMeet p q = true := by
  simp only [Rect.covers, Bool.and_eq_true, decide_eq_true_iff] at hp hq
  simp only [rectsMeet, Bool.and_eq_true, decide_eq_true_iff]
  omega

theorem rectsMeet_comm (p q : Rect) : rectsMeet p q = rectsMeet q p := by
  simp only [rectsMeet]
  ac_rfl

/-- R36: no pixel is in the panel rectangles of two views. -/
theorem Layout.Sound.eq_of_covers {l : Layout} (hl : l.Sound) {v w : View} (hv : v ∈ l.views) (hw : w ∈ l.views) {x y : Nat}
    (hvx : v.panelRect.covers x y = true) (hwx : w.panelRect.covers x y = true) : v = w := by
  by_contra hne
  have : Std.Symm fun v w : View => rectsMeet v.panelRect w.panelRect = false := ⟨fun v w h => (rectsMeet_comm _ _).trans h⟩
  have hapart : rectsMeet v.panelRect w.panelRect = false := hl.rects.forall hv hw hne
  simp [rectsMeet_of_covers hvx hwx] at hapart

namespace Collector

/-- The entry an insert makes (R81). -/
def newEntry (i : Insert) (id : Nat) : Entry :=
  { id := id, key := i.key, data := mergeBeat emptyBeat i.lane i.bytes, age := 0, flush := .held }

/-- R81, R91: the collector with an insert's new entry: in the table, or in SLEEP-DRAIN on its way out. -/
def joined (c : Collector) (i : Insert) (id : Nat) (sleeping : Bool) : Collector :=
  if sleeping = false then { c with table := c.table ++ [newEntry i id] }
  else if c.asked = [] ∧ c.ordinary.length < 16 then { c with ordinary := c.ordinary ++ [(newEntry i id).toWrite] }
  else { c with table := c.table ++ [{ newEntry i id with flush := .ordinaryWaiting }], asked := c.asked ++ [id] }

theorem flushRoom_pos_iff (c : Collector) : 0 < c.flushRoom ↔ c.asked = [] ∧ c.ordinary.length < 16 := by
  unfold flushRoom
  split
  · next h => simp [h]
  · next h => simp [h]

section
variable {c : Collector} {e : Entry} (hfresh : ∀ x ∈ c.table, x.id ≠ e.id)
include hfresh

theorem entryNamed_append : ({ c with table := c.table ++ [e] } : Collector).entryNamed e.id = some e := by
  rw [entryNamed, List.find?_append, List.find?_eq_none.2 fun x hx => by simpa using hfresh x hx]
  simp

theorem leaveAll_append :
    ({ c with table := c.table ++ [e] } : Collector).leaveAll [e] = { c with ordinary := c.ordinary ++ [e.toWrite] } := by
  have hstay : c.table.filter (fun x => !decide (x.id = e.id)) = c.table :=
    List.filter_eq_self.2 fun x hx => by simpa using hfresh x hx
  simp [leaveAll, List.filter_append, hstay]

theorem waitAll_append : ({ c with table := c.table ++ [e] } : Collector).waitAll [e] =
    { c with table := c.table ++ [{ e with flush := .ordinaryWaiting }], asked := c.asked ++ [e.id] } := by
  have hstay : (c.table.map fun x => if x.id = e.id then { x with flush := FlushState.ordinaryWaiting } else x) = c.table :=
    (List.map_congr_left fun x hx => if_neg (hfresh x hx)).trans (List.map_id _)
  simp [waitAll, hstay]

end

theorem create_eq_joined {c : Collector} (i : Insert) {id : Nat} (hfresh : ∀ x ∈ c.table, x.id ≠ id) (sleeping : Bool) :
    c.create i id sleeping = c.joined i id sleeping := by
  cases sleeping with
  | false => rfl
  | true =>
    have hnamed := entryNamed_append (c := c) (e := newEntry i id) hfresh
    have hroom : ({ c with table := c.table ++ [newEntry i id] } : Collector).flushRoom = c.flushRoom := rfl
    rw [joined, if_neg (by simp)]
    by_cases hflush : c.asked = [] ∧ c.ordinary.length < 16
    · rw [if_pos hflush, ← leaveAll_append (e := newEntry i id) hfresh]
      exact askOrdinary_leaves hnamed rfl (hroom ▸ c.flushRoom_pos_iff.2 hflush)
    · rw [if_neg hflush]
      refine (askOrdinary_waits hnamed rfl ?_).trans (waitAll_append (e := newEntry i id) hfresh)
      rw [hroom]
      exact Nat.eq_zero_of_not_pos (mt c.flushRoom_pos_iff.1 hflush)

theorem merge_eq (c : Collector) (i : Insert) (e : Entry) :
    c.merge i e =
      let merged : Collector :=
        { c with table := c.table.map fun x => if x.id = e.id then { x with data := mergeBeat e.data i.lane i.bytes } else x }
      if completeBeat (mergeBeat e.data i.lane i.bytes) = true ∧ i.shared = false then merged.askOrdinary e.id else merged := by
  rw [merge]
  dsimp only
  refine if_congr ?_ rfl rfl
  simp

section
variable {c : Collector} {i : Insert} {id : Nat} {sleeping : Bool} (hnew : c.entryFor i.key = none)
include hnew

theorem insert_of_room (hroom : c.table.length < 256) :
    c.insert i id sleeping = { collector := c.create i id sleeping, taken := true, created := true, evicted := false } := by
  rw [insert, hnew]
  exact if_pos (decide_eq_true hroom)

section
variable {oldest : Entry} {rest : List Entry} (htable : c.table = oldest :: rest) (hfull : c.table.length = 256)
include htable hfull

theorem insert_of_full :
    c.insert i id sleeping =
      match oldest.flush with
      | .held =>
        if (c.askOrdinary oldest.id).tableRoom then
          { collector := (c.askOrdinary oldest.id).create i id sleeping, taken := true, created := true, evicted := true }
        else { collector := c.askOrdinary oldest.id, taken := false, created := false, evicted := true }
      | .ordinaryWaiting => { collector := c, taken := false, created := false, evicted := false }
      | .priorityWaiting => { collector := c, taken := false, created := false, evicted := false } := by
  rw [insert, hnew]
  dsimp only
  rw [if_neg (show ¬c.tableRoom = true by simp [tableRoom, hfull, Config.tablePlaces])]
  rw [htable] <;> rfl

theorem insert_of_leaving (hflush : oldest.flush ≠ .held) :
    c.insert i id sleeping = { collector := c, taken := false, created := false, evicted := false } := by
  rw [insert_of_full hnew htable hfull]
  cases hf : oldest.flush with
  | held => exact absurd hf hflush
  | ordinaryWaiting => exact rfl
  | priorityWaiting => exact rfl

section
variable (hothers : ∀ x ∈ rest, x.id ≠ oldest.id) (hheld : oldest.flush = .held)
include hothers hheld

theorem insert_evicting (hfresh : ∀ x ∈ c.table, x.id ≠ id) (hroom : c.ordinary.length < 16) (hasked : c.asked = []) :
    c.insert i id sleeping =
      { collector := joined { c with table := rest, ordinary := c.ordinary ++ [oldest.toWrite] } i id sleeping,
        taken := true, created := true, evicted := true } := by
  have hnamed : c.entryNamed oldest.id = some oldest := by rw [entryNamed, htable, List.find?_cons_of_pos (by simp)]
  have hleft : c.askOrdinary oldest.id = { c with table := rest, ordinary := c.ordinary ++ [oldest.toWrite] } := by
    rw [askOrdinary_leaves hnamed hheld (c.flushRoom_pos_iff.2 ⟨hasked, hroom⟩), leaveAll, htable]
    have hstay : rest.filter (fun x => !decide (x.id = oldest.id)) = rest :=
      List.filter_eq_self.2 fun x hx => by simpa using hothers x hx
    simp [hstay]
  have hspace : (c.askOrdinary oldest.id).tableRoom = true := by
    rw [hleft]
    have hlength : rest.length + 1 = 256 := by rw [← List.length_cons (a := oldest), ← htable, hfull]
    exact decide_eq_true (show rest.length < 256 by omega)
  rw [insert_of_full hnew htable hfull, hheld]
  dsimp only
  rw [if_pos hspace, hleft, create_eq_joined i fun x hx => hfresh x (htable ▸ List.mem_cons_of_mem _ hx)]

theorem insert_waiting (hroom : 16 ≤ c.ordinary.length ∨ c.asked ≠ []) :
    c.insert i id sleeping =
      { collector := { c with table := { oldest with flush := .ordinaryWaiting } :: rest, asked := c.asked ++ [oldest.id] },
        taken := false, created := false, evicted := true } := by
  have hnamed : c.entryNamed oldest.id = some oldest := by rw [entryNamed, htable, List.find?_cons_of_pos (by simp)]
  have hnone : c.flushRoom = 0 := Nat.eq_zero_of_not_pos fun hpos => by
    obtain ⟨hasked, hlt⟩ := c.flushRoom_pos_iff.1 hpos
    obtain hfullQueue | hne := hroom
    · omega
    · exact hne hasked
  have hleft : c.askOrdinary oldest.id =
      { c with table := { oldest with flush := .ordinaryWaiting } :: rest, asked := c.asked ++ [oldest.id] } := by
    rw [askOrdinary_waits hnamed hheld hnone, waitAll, htable]
    have hstay : (rest.map fun x => if x.id = oldest.id then { x with flush := FlushState.ordinaryWaiting } else x) = rest :=
      (List.map_congr_left fun x hx => if_neg (hothers x hx)).trans (List.map_id _)
    simp [hstay]
  have hspace : ¬(c.askOrdinary oldest.id).tableRoom = true := by
    rw [hleft]
    have hlength : rest.length + 1 = 256 := by rw [← List.length_cons (a := oldest), ← htable, hfull]
    simp [tableRoom, Config.tablePlaces, hlength]
  rw [insert_of_full hnew htable hfull, hheld]
  dsimp only
  rw [if_neg hspace, hleft]

end

end

end

end Collector

/-- R82: an insert taken, or left waiting in hand, with its eviction counted. -/
theorem State.offerInsert_eq (s : State) (job : WriteJob) (i : Insert) :
    s.offerInsert job i =
      let a := s.collector.insert i s.nextId (decide (s.front.link = .sleepDrain))
      let u : State :=
        { s with
          collector := a.collector
          nextId := if a.created then s.nextId + 1 else s.nextId
          status :=
            { s.status with
              counters :=
                { s.status.counters with
                  eviction := if a.evicted then min 65535 (s.status.counters.eviction + 1) else s.status.counters.eviction } } }
      if a.taken then State.handedOnIfIdle (u.takeInHand job.plane job.layout job.todo)
      else { u with translator := .writing { job with hand := .insert i true } } := by
  rw [State.offerInsert]
  dsimp only
  cases (s.collector.insert i s.nextId (decide (s.front.link = .sleepDrain))).evicted <;> rfl

/-- Settles O28: an insert by the entry for its key, the room of the table and the oldest entry; what it leaves in hand waits. -/
theorem insertsReachTheCollector : Obligations.InsertsReachTheCollector := by
  refine ⟨fun c i id sleeping e he => ?merge, fun l v w b y hl hv hw hne hmeets => ?shared, fun c i id sleeping hnew hfresh =>
    ⟨fun hroom => ?room, fun oldest rest htable hfull hothers => ⟨?evict, ?waits, ?leaving⟩⟩, fun s job i hjob hhand => ?insert,
    fun s job i hjob hhand => ⟨?still, fun hroom => ?retry, fun hfull => ?full⟩, fun s => State.retryInsert_of_waitingInsert_none⟩
  case merge =>
    rw [Collector.insert, he]
    dsimp only
    rw [Collector.merge_eq]
  case shared =>
    obtain ⟨k, hk, hcovers⟩ := hmeets
    refine ⟨k, hk, Bool.eq_false_iff.2 fun hv' => hne ?_⟩
    rw [hl.eq_of_covers hv hw hv' hcovers]
  case room =>
    rw [Collector.insert_of_room hnew hroom, Collector.create_eq_joined i hfresh]
    exact rfl
  case evict => exact fun hheld hroom hasked => Collector.insert_evicting hnew htable hfull hothers hheld hfresh hroom hasked
  case waits => exact fun hheld hroom => Collector.insert_waiting hnew htable hfull hothers hheld hroom
  case leaving => exact fun hflush => Collector.insert_of_leaving hnew htable hfull hflush
  case insert =>
    have hact : act .collectorInsert s = .concluded (s.offerInsert job i) := by simp only [act, actCollectorInsert, hjob, hhand]
    rw [exec_of_concluded hact, State.offerInsert_eq]
  case still =>
    refine exec_of_still ?_
    simp only [act, actCollectorInsert, hjob, hhand]
  case retry =>
    refine Eq.trans ?_ (State.offerInsert_eq s job i)
    rw [State.retryInsert, hjob]
    simp only [hhand]
    exact if_pos (decide_eq_true hroom)
  case full =>
    rw [State.retryInsert, hjob]
    simp only [hhand]
    exact if_neg (mt of_decide_eq_true (Nat.not_lt.2 hfull))

end Sys2Proof.Machine
end

section
/-! The collector's queues (R86 to R88): how places that have appeared are taken, and what a request for priority asks. -/

namespace Sys2Proof.Machine

/-! ### Lists without repeats -/

theorem eraseDups_filter_ne {α : Type} [DecidableEq α] (a : α) (l : List α) :
    (l.filter fun b => decide (b ≠ a)).eraseDups = l.eraseDups.filter fun b => decide (b ≠ a) := by
  match l with
  | [] => rfl
  | b :: rest =>
    rw [List.eraseDups_cons]
    by_cases hb : b = a
    · subst hb
      have hsame : (rest.filter fun x => !x == b) = rest.filter fun x => decide (x ≠ b) := by
        refine List.filter_congr fun x _ => ?_
        simp [beq_eq_decide]
      rw [List.filter_cons_of_neg (by simp), List.filter_cons_of_neg (by simp), hsame, eraseDups_filter_ne b rest,
        List.filter_filter]
      simp
    · have hlt : (rest.filter fun x => !x == b).length < (b :: rest).length :=
        Nat.lt_succ_of_le (List.length_filter_le _ _)
      rw [List.filter_cons_of_pos (by simpa using hb), List.filter_cons_of_pos (by simpa using hb), List.eraseDups_cons,
        ← eraseDups_filter_ne a (rest.filter fun x => !x == b), List.filter_filter, List.filter_filter]
      simp [Bool.and_comm]
termination_by l.length
decreasing_by
  · exact Nat.lt_succ_self _
  · exact hlt

/-- Taking an element once, the rest of a list without repeats is looked up without it. -/
theorem filterMap_eraseDups_cons {α β : Type} [DecidableEq α] (f : α → Option β) (a : α) (l : List α) :
    (a :: l).eraseDups.filterMap f = (f a).toList ++ l.eraseDups.filterMap fun b => if b = a then none else f b := by
  have hrest : ((l.filter fun b => !b == a).eraseDups.filterMap f) = l.eraseDups.filterMap fun b => if b = a then none else f b := by
    have hsame : (l.filter fun b => !b == a) = l.filter fun b => decide (b ≠ a) :=
      List.filter_congr fun x _ => by simp [beq_eq_decide]
    rw [hsame, eraseDups_filter_ne, List.filterMap_filter]
    refine List.filterMap_congr fun b _ => ?_
    by_cases hb : b = a <;> simp [hb]
  rw [List.eraseDups_cons, List.filterMap_cons, hrest]
  cases f a <;> rfl

namespace Collector

/-! ### Writes promoted (R87) -/

/-- The writes a priority request can still move: the ordinary queue, then the table. -/
def heldWrites (c : Collector) : List FlushWrite := c.ordinary ++ c.table.map Entry.toWrite

def heldNamed (c : Collector) (id : Nat) : Option FlushWrite := c.heldWrites.find? fun w => decide (w.id = id)

/-- No two of the writes a request can move share a name, and what was asked is in the table. -/
structure Distinct (c : Collector) : Prop where
  names : (c.ordinary.map (·.id) ++ c.table.map (·.id)).Nodup
  asked : ∀ id ∈ c.asked, ∃ e ∈ c.table, e.id = id

/-- A name is none of those of some writes. -/
def stays (ws : List FlushWrite) (id : Nat) : Bool := decide (∀ w ∈ ws, w.id ≠ id)

@[simp] theorem stays_nil (id : Nat) : stays [] id = true := by simp [stays]

@[simp] theorem stays_cons (w : FlushWrite) (ws : List FlushWrite) (id : Nat) :
    stays (w :: ws) id = (decide (w.id ≠ id) && stays ws id) := by
  simp [stays]

/-- Writes move to the tail of the priority queue from wherever they were held. -/
def promote (c : Collector) (ws : List FlushWrite) : Collector :=
  { c with
    ordinary := c.ordinary.filter fun w => stays ws w.id
    priority := c.priority ++ ws
    table := c.table.filter fun e => stays ws e.id
    asked := c.asked.filter fun id => stays ws id }

theorem promote_nil (c : Collector) : c.promote [] = c := by simp [promote]

theorem promote_cons (c : Collector) (w : FlushWrite) (ws : List FlushWrite) : (c.promote [w]).promote ws = c.promote (w :: ws) := by
  simp [promote, List.filter_filter, Bool.and_comm]

theorem promote_heldWrites (c : Collector) (ws : List FlushWrite) :
    (c.promote ws).heldWrites = c.heldWrites.filter fun w => stays ws w.id := by
  simp only [heldWrites, promote, List.filter_append, List.filter_map]
  exact rfl

theorem Distinct.promote {c : Collector} (h : c.Distinct) (ws : List FlushWrite) : (c.promote ws).Distinct where
  names := (List.filter_sublist.map _).append (List.filter_sublist.map _) |>.nodup h.names
  asked id hid := by
    obtain ⟨hasked, hstays⟩ := List.mem_filter.1 hid
    obtain ⟨e, he, rfl⟩ := h.asked id hasked
    exact ⟨e, List.mem_filter.2 ⟨he, hstays⟩, rfl⟩

theorem heldNamed_id {c : Collector} {id : Nat} {w : FlushWrite} (h : c.heldNamed id = some w) : w.id = id := by
  simpa using List.find?_some h

theorem promote_heldNamed (c : Collector) (w : FlushWrite) (id : Nat) :
    (c.promote [w]).heldNamed id = if id = w.id then none else c.heldNamed id := by
  rw [heldNamed, promote_heldWrites, List.find?_filter]
  by_cases hid : id = w.id
  · rw [if_pos hid, List.find?_eq_none]
    intro x _
    by_cases hx : x.id = w.id <;> simp [hid, hx]
  · rw [if_neg hid, heldNamed]
    congr 1
    funext x
    by_cases hx : x.id = id
    · simp [hx, Ne.symm hid]
    · simp [hx]

theorem heldNamed_eq (c : Collector) (id : Nat) :
    c.heldNamed id = (c.ordinary.find? fun w => decide (w.id = id)).or ((c.entryNamed id).map Entry.toWrite) := by
  rw [heldNamed, heldWrites, List.find?_append, List.find?_map]
  exact rfl

/-- A name in the ordinary queue is no entry's. -/
theorem Distinct.not_entry {c : Collector} (h : c.Distinct) {w : FlushWrite} (hw : w ∈ c.ordinary) {e : Entry} (he : e ∈ c.table) :
    w.id ≠ e.id :=
  (List.nodup_append.1 h.names).2.2 _ (List.mem_map_of_mem hw) _ (List.mem_map_of_mem he)

theorem movePriority_of_none {c : Collector} {id : Nat} (h : c.heldNamed id = none) : c.movePriority id = c := by
  rw [heldNamed_eq, Option.or_eq_none_iff, Option.map_eq_none_iff] at h
  rw [movePriority, h.1]
  dsimp only
  rw [h.2]

theorem movePriority_of_some {c : Collector} (hc : c.Distinct) {id : Nat} {w : FlushWrite} (h : c.heldNamed id = some w) :
    c.movePriority id = c.promote [w] := by
  obtain rfl := heldNamed_id h
  rw [heldNamed_eq] at h
  cases hord : c.ordinary.find? fun x => decide (x.id = w.id) with
  | some v =>
    rw [hord] at h
    cases h
    have hmem := List.mem_of_find?_eq_some hord
    have htable : (c.table.filter fun e => stays [w] e.id) = c.table :=
      List.filter_eq_self.2 fun e he => by simpa using hc.not_entry hmem he
    have hasked : (c.asked.filter fun id => stays [w] id) = c.asked := List.filter_eq_self.2 fun id hid => by
      obtain ⟨e, he, rfl⟩ := hc.asked id hid
      simpa using hc.not_entry hmem he
    rw [movePriority, hord, promote, htable, hasked]
    simp [eq_comm]
  | none =>
    rw [hord, Option.none_or] at h
    obtain ⟨e, he, rfl⟩ := Option.map_eq_some_iff.1 h
    have hord' : (c.ordinary.filter fun x => stays [e.toWrite] x.id) = c.ordinary :=
      List.filter_eq_self.2 fun x hx => by
        have hne : e.toWrite.id ≠ x.id := fun heq => List.find?_eq_none.1 hord x hx (decide_eq_true heq.symm)
        simpa using hne
    have htable : (c.table.filter fun x => stays [e.toWrite] x.id) = c.table.filter (·.id ≠ e.toWrite.id) :=
      List.filter_congr fun x _ => by simp [eq_comm]
    have hasked : (c.asked.filter fun id => stays [e.toWrite] id) = c.asked.filter (· ≠ e.toWrite.id) :=
      List.filter_congr fun x _ => by simp [eq_comm]
    rw [movePriority, hord]
    dsimp only
    rw [he, promote, hord', htable, hasked, dropEntry]

/-- R87: moves in their order, each once, while the priority queue has a place. -/
theorem moveEach_eq {c : Collector} (hc : c.Distinct) (ids : List Nat) :
    c.moveEach ids = c.promote ((ids.eraseDups.filterMap c.heldNamed).take (16 - c.priority.length)) := by
  induction ids generalizing c with
  | nil => simp [moveEach, promote_nil]
  | cons id rest ih =>
    rw [moveEach]
    by_cases hroom : c.priority.length < 16
    · obtain ⟨n, hn⟩ : ∃ n, 16 - c.priority.length = n + 1 := ⟨15 - c.priority.length, by omega⟩
      rw [if_pos (show c.priorityRoom = true from decide_eq_true hroom), filterMap_eraseDups_cons, hn]
      cases hid : c.heldNamed id with
      | none =>
        have hsame : (fun b => if b = id then none else c.heldNamed b) = c.heldNamed := by
          funext b
          by_cases hb : b = id
          · rw [if_pos hb, hb, hid]
          · rw [if_neg hb]
        rw [movePriority_of_none hid, ih hc, hsame, hn]
        rfl
      | some w =>
        have hlength : (c.promote [w]).priority.length = c.priority.length + 1 := by simp [promote]
        have hlookup : (c.promote [w]).heldNamed = fun b => if b = id then none else c.heldNamed b := by
          funext b
          rw [promote_heldNamed, heldNamed_id hid]
        rw [movePriority_of_some hc hid, ih (hc.promote _), promote_cons, hlookup, hlength, show 16 - (c.priority.length + 1) = n by omega]
        rfl
    · rw [if_neg (show ¬c.priorityRoom = true from mt of_decide_eq_true hroom), show 16 - c.priority.length = 0 by omega,
        List.take_zero, promote_nil]

theorem unmoved_eq (c : Collector) (id : Nat) : c.unmoved id = decide (∃ w ∈ c.heldWrites, w.id = id) := by
  refine Bool.eq_iff_iff.2 (Iff.trans ?_ decide_eq_true_iff.symm)
  simp only [unmoved, heldWrites, Bool.or_eq_true, List.any_eq_true, decide_eq_true_iff, List.mem_append, List.mem_map]
  constructor
  · rintro (⟨w, hw, hid⟩ | ⟨e, he, hid⟩)
    · exact ⟨w, .inl hw, hid⟩
    · exact ⟨e.toWrite, .inr ⟨e, he, rfl⟩, hid⟩
  · rintro ⟨w, hw | ⟨e, he, rfl⟩, hid⟩
    · exact .inl ⟨w, hw, hid⟩
    · exact .inr ⟨e, he, hid⟩

theorem promote_unmoved (c : Collector) (ws : List FlushWrite) (id : Nat) :
    (c.promote ws).unmoved id = (stays ws id && decide (∃ w ∈ c.heldWrites, w.id = id)) := by
  rw [unmoved_eq, promote_heldWrites]
  refine Bool.eq_iff_iff.2 ?_
  simp only [List.mem_filter, decide_eq_true_iff, Bool.and_eq_true]
  constructor
  · rintro ⟨w, ⟨hw, hstays⟩, rfl⟩
    exact ⟨hstays, w, hw, rfl⟩
  · rintro ⟨hstays, w, hw, rfl⟩
    exact ⟨w, ⟨hw, hstays⟩, rfl⟩

/-! ### Entries that take the places of the ordinary queue (R86) -/

/-- Entries leave the table for the ordinary queue, and are asked no more. -/
def sendOff (c : Collector) (es : List Entry) : Collector :=
  { c with
    table := c.table.filter fun e => !among es e
    ordinary := c.ordinary ++ es.map Entry.toWrite
    asked := c.asked.filter fun id => decide (∀ e ∈ es, e.id ≠ id) }

theorem sendOff_nil (c : Collector) : c.sendOff [] = c := by simp [sendOff]

theorem sendOff_cons (c : Collector) (e : Entry) (es : List Entry) : (c.sendOff [e]).sendOff es = c.sendOff (e :: es) := by
  simp [sendOff, List.filter_filter, Bool.and_comm]

theorem leaveOrdinary_of_some {c : Collector} {id : Nat} {e : Entry} (h : c.entryNamed id = some e) :
    c.leaveOrdinary id = c.sendOff [e] := by
  obtain rfl : e.id = id := by simpa using List.find?_some h
  rw [leaveOrdinary, h]
  simp [sendOff, dropEntry, eq_comm]

theorem leaveOrdinary_of_none {c : Collector} {id : Nat} (h : c.entryNamed id = none) : c.leaveOrdinary id = c := by
  rw [leaveOrdinary, h]

theorem sendOff_entryNamed {c : Collector} {e : Entry} {id : Nat} (h : id ≠ e.id) : (c.sendOff [e]).entryNamed id = c.entryNamed id := by
  rw [entryNamed, sendOff, List.find?_filter, entryNamed]
  congr 1
  funext x
  by_cases hx : x.id = id
  · simp [hx, h]
  · simp [hx]

theorem fillOrdinaryWith_eq {c : Collector} {ids : List Nat} (hids : ids.Nodup) :
    c.fillOrdinaryWith ids = c.sendOff ((ids.filterMap c.entryNamed).take (16 - c.ordinary.length)) := by
  induction ids generalizing c with
  | nil => simp [fillOrdinaryWith, sendOff_nil]
  | cons id rest ih =>
    obtain ⟨hid, hrest⟩ := List.nodup_cons.1 hids
    rw [fillOrdinaryWith]
    by_cases hroom : c.ordinary.length < 16
    · obtain ⟨n, hn⟩ : ∃ n, 16 - c.ordinary.length = n + 1 := ⟨15 - c.ordinary.length, by omega⟩
      rw [if_pos (show c.ordinaryRoom = true from decide_eq_true hroom), ih hrest, List.filterMap_cons, hn]
      cases hentry : c.entryNamed id with
      | none => rw [leaveOrdinary_of_none hentry, hn]
      | some e =>
        obtain rfl : e.id = id := by simpa using List.find?_some hentry
        have hlength : (c.sendOff [e]).ordinary.length = c.ordinary.length + 1 := by simp [sendOff]
        have hlookup : rest.filterMap (c.sendOff [e]).entryNamed = rest.filterMap c.entryNamed :=
          List.filterMap_congr fun b hb => sendOff_entryNamed fun heq => hid (heq ▸ hb)
        rw [leaveOrdinary_of_some hentry, sendOff_cons, hlookup, hlength, show 16 - (c.ordinary.length + 1) = n by omega]
        rfl
    · rw [if_neg (show ¬c.ordinaryRoom = true from mt of_decide_eq_true hroom), show 16 - c.ordinary.length = 0 by omega,
        List.take_zero, sendOff_nil]

/-! ### Places taken (R86, R87) -/

/-- The writes that move into the places of the priority queue. -/
def moved (c : Collector) : List FlushWrite :=
  ((c.requests.flatMap (·.moves)).eraseDups.filterMap c.heldNamed).take (16 - c.priority.length)

/-- The collector once the priority requests have been carried out as far as there are places; what is left of a request waits. -/
def promoted (c : Collector) : Collector :=
  { c.promote c.moved with
    requests :=
      (c.requests.map fun r =>
        { r with moves := r.moves.filter fun id => stays c.moved id && decide (∃ w ∈ c.heldWrites, w.id = id) }).filter
        fun r => decide (r.moves ≠ []) }

/-- The entries that take the places of the ordinary queue. -/
def leaving (c : Collector) : List Entry := (c.asked.filterMap c.entryNamed).take (16 - c.ordinary.length)

theorem carryOut_eq {c : Collector} (hc : c.Distinct) : c.carryOut = c.promoted := by
  have hmoves : c.moveEach (c.requests.flatMap (·.moves)) = c.promote c.moved := moveEach_eq hc _
  have hunmoved : (c.promote c.moved).unmoved = fun id => stays c.moved id && decide (∃ w ∈ c.heldWrites, w.id = id) :=
    funext fun id => c.promote_unmoved c.moved id
  have hnonempty : (fun r : PriorityRequest => !r.moves.isEmpty) = fun r => decide (r.moves ≠ []) :=
    funext fun r => by cases r.moves <;> rfl
  rw [carryOut, hmoves, hunmoved, hnonempty]
  exact rfl

/-- R86, R87: places that have appeared are taken by the requests, then by the entries asked. -/
theorem advance_eq {c : Collector} (hc : c.Distinct) (hasked : c.asked.Nodup) : c.advance = c.promoted.sendOff c.promoted.leaving := by
  rw [advance, carryOut_eq hc, fillOrdinary, fillOrdinaryWith_eq]
  · exact rfl
  · exact List.filter_sublist.nodup hasked

theorem mem_table_of_leaving {c : Collector} {e : Entry} (h : e ∈ c.leaving) : e ∈ c.table := by
  obtain ⟨id, _, he⟩ := List.mem_filterMap.1 (List.mem_of_mem_take h)
  exact List.mem_of_find?_eq_some he

/-- In a table of distinct names the entries that leave are told by themselves. -/
theorem sendOff_leaving_table {c : Collector} (hids : (c.table.map (·.id)).Nodup) :
    (c.sendOff c.leaving).table = c.table.filter fun e => decide (e ∉ c.leaving) := by
  refine List.filter_congr fun e he => ?_
  rw [among_eq_decide hids (fun x => mem_table_of_leaving) he, decide_not]

/-! ### Enquiries and requests (R60, R87, R88) -/

theorem mem_heldFor_iff (c : Collector) (keys : List Key) (id : Nat) :
    id ∈ c.heldFor keys ↔
      (∃ w ∈ c.priority ++ c.ordinary, w.id = id ∧ w.key ∈ keys) ∨ (∃ e ∈ c.table, e.id = id ∧ e.key ∈ keys) := by
  simp only [heldFor, List.mem_append, List.mem_map, List.mem_filter, List.contains_iff_mem]
  constructor
  · rintro ((⟨w, ⟨hw, hkey⟩, hid⟩ | ⟨w, ⟨hw, hkey⟩, hid⟩) | ⟨e, ⟨he, hkey⟩, hid⟩)
    · exact .inl ⟨w, .inl hw, hid, hkey⟩
    · exact .inl ⟨w, .inr hw, hid, hkey⟩
    · exact .inr ⟨e, he, hid, hkey⟩
  · rintro (⟨w, hw | hw, hid, hkey⟩ | ⟨e, he, hid, hkey⟩)
    · exact .inl (.inl ⟨w, ⟨hw, hkey⟩, hid⟩)
    · exact .inl (.inr ⟨w, ⟨hw, hkey⟩, hid⟩)
    · exact .inr ⟨e, ⟨he, hkey⟩, hid⟩

theorem makeRequest_of_none {c : Collector} {k : Key} (h : c.movesFor k = []) : c.makeRequest k = c := by
  rw [makeRequest, h]

theorem makeRequest_of_moves {c : Collector} {k : Key} (h : c.movesFor k ≠ []) :
    c.makeRequest k =
      { c with
        table := c.table.map fun e => if e.key = k then { e with flush := .priorityWaiting } else e
        asked := c.asked.filter fun id => decide (id ∉ c.movesFor k)
        requests := c.requests ++ [{ key := k, moves := c.movesFor k }] } := by
  have hstays : (c.asked.filter fun id => !(c.movesFor k).contains id) = c.asked.filter fun id => decide (id ∉ c.movesFor k) :=
    List.filter_congr fun id _ => by simp [List.contains_eq_mem]
  rw [← hstays, makeRequest]
  split
  · next hnone => exact absurd hnone h
  · exact rfl

theorem makeRequests_eq_foldl (c : Collector) (keys : List Key) : c.makeRequests keys = keys.foldl makeRequest c := by
  induction keys generalizing c with
  | nil => rfl
  | cons k rest ih => exact ih _

end Collector

theorem beatKeys_eq_map (plane : Plane) (addr n : Nat) :
    beatKeys plane addr n = (List.range n).map fun j => { plane := plane, beat := addr + 16 * j } := by
  induction n generalizing addr with
  | zero => rfl
  | succ n ih =>
    rw [beatKeys, ih, List.range_succ_eq_map, List.map_cons, List.map_map]
    refine congrArg (_ :: ·) (List.map_congr_left fun j _ => ?_)
    simp only [Function.comp_apply, Nat.succ_eq_add_one]
    congr 1
    omega

/-! ### Enquiry and placement (R53, R60) -/

theorem State.enquire_of_end {s : State} {job : ReadJob} (h : job.plan = []) : s.enquire job = { s with translator := .readWait job } := by
  rw [State.enquire, h]

theorem State.enquire_of_clear {s : State} {job : ReadJob} {p : PlanSegment} {rest : List PlanSegment} (h : job.plan = p :: rest)
    (hclear : s.collector.heldFor (p.keys job.plane) = []) : s.enquire job = { s with translator := .readIssue job } := by
  rw [State.enquire, h]
  dsimp only
  rw [hclear]

theorem State.enquire_of_held {s : State} {job : ReadJob} {p : PlanSegment} {rest : List PlanSegment} (h : job.plan = p :: rest)
    (hheld : s.collector.heldFor (p.keys job.plane) ≠ []) :
    s.enquire job =
      { s with
        collector := s.collector.requestPriority (p.keys job.plane)
        translator := .readHeld job (s.collector.heldFor (p.keys job.plane)) } := by
  rw [State.enquire, h]
  dsimp only
  split
  · next hnone => exact absurd hnone hheld
  · exact rfl

theorem State.outputRoom_of_lt {s : State} (h : s.outQueue.length < 16) : s.outputRoom = true := decide_eq_true h

/-- R60: the read segment is placed, and the next one enquired about. -/
theorem exec_translatedReadSegmentPlace {s : State} {job : ReadJob} {p : PlanSegment} {rest : List PlanSegment}
    (hjob : s.translator = .readIssue job) (hplan : job.plan = p :: rest) (hroom : s.outQueue.length < 16) :
    exec .translatedReadSegmentPlace s = .next (State.conclude
      ((s.placeSegment (.translated p.index) p.addr (.read p.beats)).enquire { job with plan := rest })) := by
  have hplace : s.placeRead job = (s.placeSegment (.translated p.index) p.addr (.read p.beats)).enquire { job with plan := rest } := by
    rw [State.placeRead, hplan]
  refine (exec_of_concluded (u := s.placeRead job) ?_).trans (by rw [hplace])
  simp only [act, actTranslatedReadSegmentPlace, hjob]
  exact if_pos (State.outputRoom_of_lt hroom)

/-- Settles O27: each placement by the room of the queue, each enquiry by what is held, and places by the requests and the entries asked. -/
theorem translatorPlacesItsSegments : Obligations.TranslatorPlacesItsSegments := by
  refine ⟨fun s job addr beats hjob hhand => ⟨fun hroom => ?place, fun hfull => ?stall⟩, fun s job p rest hjob hplan =>
    ⟨fun hroom hend => ?last, fun q more hroom hnext => ⟨fun hclear => ?clear, fun hheld => ?held⟩, fun hfull => ?full⟩,
    Collector.mem_heldFor_iff, fun p plane => beatKeys_eq_map _ _ _, fun c k => ⟨Collector.makeRequest_of_none,
      Collector.makeRequest_of_moves⟩, fun c keys => ?requests, fun c hnames hasked hsub => ?advance⟩
  case place =>
    refine (exec_of_concluded (u := (s.placeSegment (.straight job.plane) addr (.write beats)).goOn job) ?_).trans rfl
    simp only [act, actStraightSegmentPlace, hjob, hhand]
    exact if_pos (State.outputRoom_of_lt hroom)
  case stall =>
    refine exec_of_still ?_
    simp only [act, actStraightSegmentPlace, hjob, hhand]
    exact if_neg (mt of_decide_eq_true (Nat.not_lt.2 hfull))
  case full =>
    refine exec_of_still ?_
    simp only [act, actTranslatedReadSegmentPlace, hjob]
    exact if_neg (mt of_decide_eq_true (Nat.not_lt.2 hfull))
  case last =>
    rw [exec_translatedReadSegmentPlace hjob hplan hroom, State.enquire_of_end (job := { job with plan := rest }) hend]
    exact rfl
  case clear =>
    rw [exec_translatedReadSegmentPlace hjob hplan hroom,
      State.enquire_of_clear (s := s.placeSegment _ _ _) (job := { job with plan := rest }) hnext hclear]
    exact rfl
  case held =>
    rw [exec_translatedReadSegmentPlace hjob hplan hroom,
      State.enquire_of_held (s := s.placeSegment _ _ _) (job := { job with plan := rest }) hnext hheld]
    exact rfl
  case requests => rw [Collector.requestPriority, Collector.makeRequests_eq_foldl]
  case advance =>
    have hc : c.Distinct := ⟨hnames, hsub⟩
    have htable := Collector.sendOff_leaving_table (c := c.promoted) (hc.promote c.moved |>.names.of_append_right)
    exact (Collector.advance_eq hc hasked).trans
      (congrArg (fun table => { c.promoted.sendOff c.promoted.leaving with table := table }) htable)

end Sys2Proof.Machine
end

section
/-! UNBIND, COMMIT and CANCEL (R102 to R104, R109): what the collector still holds when it has discarded, drained or moved its writes. -/

namespace Sys2Proof.Machine

namespace Collector

/-! ### The writes held (R77, R79) -/

/-- Every write of the collector: in either queue, or still an entry. -/
def writes (c : Collector) : List FlushWrite := c.priority ++ c.ordinary ++ c.table.map Entry.toWrite

/-- The second collector holds writes of the first alone, and one for each of their names. -/
structure Carries (c d : Collector) : Prop where
  held : ∀ w ∈ d.writes, w ∈ c.writes
  named : ∀ w ∈ c.writes, ∃ v ∈ d.writes, v.id = w.id

theorem Carries.of_eq {c d : Collector} (h : d.writes = c.writes) : Carries c d :=
  ⟨fun _ hw => h ▸ hw, fun w hw => ⟨w, h ▸ hw, rfl⟩⟩

theorem Carries.refl (c : Collector) : Carries c c := .of_eq rfl

theorem Carries.trans {c d e : Collector} (h : Carries c d) (k : Carries d e) : Carries c e where
  held w hw := h.held w (k.held w hw)
  named w hw := by
    obtain ⟨v, hv, hid⟩ := h.named w hw
    obtain ⟨u, hu, hid'⟩ := k.named v hv
    exact ⟨u, hu, hid'.trans hid⟩

theorem mem_writes_iff {c : Collector} {w : FlushWrite} :
    w ∈ c.writes ↔ w ∈ c.priority ∨ w ∈ c.ordinary ∨ ∃ e ∈ c.table, e.toWrite = w := by
  simp [writes]

theorem leaveOrdinary_carries (c : Collector) (id : Nat) : Carries c (c.leaveOrdinary id) := by
  unfold leaveOrdinary
  split
  · exact .refl c
  · next e he =>
    have hmem := List.mem_of_find?_eq_some he
    have hid : e.id = id := by simpa using List.find?_some he
    refine ⟨fun w hw => ?_, fun w hw => ?_⟩
    · simp only [mem_writes_iff, dropEntry, List.mem_append, List.mem_filter, List.mem_singleton] at hw ⊢
      obtain hw | (hw | rfl) | ⟨x, ⟨hx, _⟩, rfl⟩ := hw
      · exact .inl hw
      · exact .inr (.inl hw)
      · exact .inr (.inr ⟨e, hmem, rfl⟩)
      · exact .inr (.inr ⟨x, hx, rfl⟩)
    · simp only [mem_writes_iff, dropEntry, List.mem_append, List.mem_filter, List.mem_singleton] at hw ⊢
      obtain hw | hw | ⟨x, hx, rfl⟩ := hw
      · exact ⟨w, .inl hw, rfl⟩
      · exact ⟨w, .inr (.inl (.inl hw)), rfl⟩
      · by_cases hxid : x.id = id
        · exact ⟨e.toWrite, .inr (.inl (.inr rfl)), hid.trans hxid.symm⟩
        · exact ⟨x.toWrite, .inr (.inr ⟨x, ⟨hx, by simpa using hxid⟩, rfl⟩), rfl⟩

theorem fillOrdinaryWith_carries (c : Collector) (ids : List Nat) : Carries c (c.fillOrdinaryWith ids) := by
  induction ids generalizing c with
  | nil => exact .refl c
  | cons id rest ih =>
    unfold fillOrdinaryWith
    split
    · exact (c.leaveOrdinary_carries id).trans (ih _)
    · exact .refl c

theorem movePriority_carries (c : Collector) (id : Nat) : Carries c (c.movePriority id) := by
  unfold movePriority
  split
  · next v hv =>
    have hmem := List.mem_of_find?_eq_some hv
    have hid : v.id = id := by simpa using List.find?_some hv
    refine ⟨fun w hw => ?_, fun w hw => ?_⟩
    · simp only [mem_writes_iff, List.mem_append, List.mem_filter, List.mem_singleton] at hw ⊢
      obtain (hw | rfl) | ⟨hw, _⟩ | hw := hw
      · exact .inl hw
      · exact .inr (.inl hmem)
      · exact .inr (.inl hw)
      · exact .inr (.inr hw)
    · simp only [mem_writes_iff, List.mem_append, List.mem_filter, List.mem_singleton] at hw ⊢
      obtain hw | hw | hw := hw
      · exact ⟨w, .inl (.inl hw), rfl⟩
      · by_cases hwid : w.id = id
        · exact ⟨v, .inl (.inr rfl), hid.trans hwid.symm⟩
        · exact ⟨w, .inr (.inl ⟨hw, by simpa using hwid⟩), rfl⟩
      · exact ⟨w, .inr (.inr hw), rfl⟩
  · split
    · next e he =>
      have hmem := List.mem_of_find?_eq_some he
      have hid : e.id = id := by simpa using List.find?_some he
      refine ⟨fun w hw => ?_, fun w hw => ?_⟩
      · simp only [mem_writes_iff, dropEntry, List.mem_append, List.mem_filter, List.mem_singleton] at hw ⊢
        obtain (hw | rfl) | hw | ⟨x, ⟨hx, _⟩, rfl⟩ := hw
        · exact .inl hw
        · exact .inr (.inr ⟨e, hmem, rfl⟩)
        · exact .inr (.inl hw)
        · exact .inr (.inr ⟨x, hx, rfl⟩)
      · simp only [mem_writes_iff, dropEntry, List.mem_append, List.mem_filter, List.mem_singleton] at hw ⊢
        obtain hw | hw | ⟨x, hx, rfl⟩ := hw
        · exact ⟨w, .inl (.inl hw), rfl⟩
        · exact ⟨w, .inr (.inl hw), rfl⟩
        · by_cases hxid : x.id = id
          · exact ⟨e.toWrite, .inl (.inr rfl), hid.trans hxid.symm⟩
          · exact ⟨x.toWrite, .inr (.inr ⟨x, ⟨hx, by simpa using hxid⟩, rfl⟩), rfl⟩
    · exact .refl c

theorem moveEach_carries (c : Collector) (ids : List Nat) : Carries c (c.moveEach ids) := by
  induction ids generalizing c with
  | nil => exact .refl c
  | cons id rest ih =>
    unfold moveEach
    split
    · exact (c.movePriority_carries id).trans (ih _)
    · exact .refl c

/-- No write is lost where places are taken. -/
theorem advance_carries (c : Collector) : Carries c c.advance :=
  have hcarried : Carries c c.carryOut := (c.moveEach_carries (c.requests.flatMap (·.moves))).trans (.of_eq rfl)
  hcarried.trans (fillOrdinaryWith_carries _ _)

theorem makeRequest_writes (c : Collector) (k : Key) : (c.makeRequest k).writes = c.writes := by
  unfold makeRequest
  split
  · rfl
  · have htable : ((c.table.map fun e => if e.key = k then { e with flush := FlushState.priorityWaiting } else e).map Entry.toWrite) =
        c.table.map Entry.toWrite := by
      rw [List.map_map]
      refine List.map_congr_left fun e _ => ?_
      simp only [Function.comp_apply]
      split <;> rfl
    simp only [writes, htable]

theorem makeRequests_writes (c : Collector) (keys : List Key) : (c.makeRequests keys).writes = c.writes := by
  induction keys generalizing c with
  | nil => rfl
  | cons k rest ih => exact (ih _).trans (c.makeRequest_writes k)

theorem requestPriority_carries (c : Collector) (keys : List Key) : Carries c (c.requestPriority keys) :=
  (Carries.of_eq (c.makeRequests_writes keys)).trans (advance_carries _)

/-- R89: the writes of a plane. -/
theorem mem_writesOf_iff (c : Collector) (p : Plane) (id : Nat) : id ∈ c.writesOf p ↔ ∃ w ∈ c.writes, w.id = id ∧ w.key.plane = p := by
  simp only [writesOf, mem_writes_iff, List.mem_append, List.mem_map, List.mem_filter, decide_eq_true_iff]
  constructor
  · rintro ((⟨w, ⟨hw, hp⟩, hid⟩ | ⟨w, ⟨hw, hp⟩, hid⟩) | ⟨e, ⟨he, hp⟩, hid⟩)
    · exact ⟨w, .inl hw, hid, hp⟩
    · exact ⟨w, .inr (.inl hw), hid, hp⟩
    · exact ⟨e.toWrite, .inr (.inr ⟨e, he, rfl⟩), hid, hp⟩
  · rintro ⟨w, hw | hw | ⟨e, he, rfl⟩, hid, hp⟩
    · exact .inl (.inl ⟨w, ⟨hw, hp⟩, hid⟩)
    · exact .inl (.inr ⟨w, ⟨hw, hp⟩, hid⟩)
    · exact .inr ⟨e, ⟨he, hp⟩, hid⟩

theorem writes_ids (c : Collector) :
    c.writes.map (·.id) = c.priority.map (·.id) ++ c.ordinary.map (·.id) ++ c.table.map (·.id) := by
  simp only [writes, List.map_append, List.map_map]
  exact rfl

/-- Where names are distinct, no write changes its plane. -/
theorem Carries.writesOf_iff {c d : Collector} (h : Carries c d) (hids : (c.writes.map (·.id)).Nodup) (p : Plane) (id : Nat) :
    id ∈ d.writesOf p ↔ id ∈ c.writesOf p := by
  rw [mem_writesOf_iff, mem_writesOf_iff]
  constructor
  · rintro ⟨w, hw, hid, hp⟩
    exact ⟨w, h.held w hw, hid, hp⟩
  · rintro ⟨w, hw, hid, hp⟩
    obtain ⟨v, hv, hvid⟩ := h.named w hw
    obtain rfl := List.inj_on_of_nodup_map hids (h.held v hv) hw hvid
    exact ⟨v, hv, hid, hp⟩

/-! ### The discard of a plane's writes (R90) -/

/-- The collector without a plane's writes, before places are taken. -/
def without (c : Collector) (p : Plane) : Collector :=
  ({ c with
      table := c.table.filter fun e => e.key.plane ≠ p
      ordinary := c.ordinary.filter fun w => w.key.plane ≠ p
      priority := c.priority.filter fun w => w.key.plane ≠ p
      requests := c.requests.filter fun r => r.key.plane ≠ p
      asked := c.asked.filter fun id => !((c.table.filter fun e => e.key.plane = p).map (·.id)).contains id } : Collector).leaveDrains
    (c.writesOf p).contains

theorem discard_eq_advance (c : Collector) (p : Plane) : c.discard p = (c.without p).advance := rfl

theorem mem_without_writes {c : Collector} {p : Plane} {w : FlushWrite} : w ∈ (c.without p).writes ↔ w ∈ c.writes ∧ w.key.plane ≠ p := by
  simp only [mem_writes_iff, without, leaveDrains, List.mem_filter, decide_eq_true_iff]
  constructor
  · rintro (⟨hw, hp⟩ | ⟨hw, hp⟩ | ⟨e, ⟨he, hp⟩, rfl⟩)
    · exact ⟨.inl hw, hp⟩
    · exact ⟨.inr (.inl hw), hp⟩
    · exact ⟨.inr (.inr ⟨e, he, rfl⟩), hp⟩
  · rintro ⟨hw | hw | ⟨e, he, rfl⟩, hp⟩
    · exact .inl ⟨hw, hp⟩
    · exact .inr (.inl ⟨hw, hp⟩)
    · exact .inr (.inr ⟨e, ⟨he, hp⟩, rfl⟩)

theorem mem_discard_writes {c : Collector} {p : Plane} {w : FlushWrite} (h : w ∈ (c.discard p).writes) :
    w ∈ c.writes ∧ w.key.plane ≠ p :=
  mem_without_writes.1 ((c.without p).advance_carries.held w h)

theorem discard_writesOf_same (c : Collector) (p : Plane) : (c.discard p).writesOf p = [] := by
  refine List.eq_nil_iff_forall_not_mem.2 fun id hid => ?_
  obtain ⟨w, hw, _, hp⟩ := (mem_writesOf_iff _ _ _).1 hid
  exact (mem_discard_writes hw).2 hp


theorem discard_writesOf_other (c : Collector) (p : Plane) (id : Nat) : id ∈ (c.discard p).writesOf p.other ↔ id ∈ c.writesOf p.other := by
  have hother (q : Plane) : q = p.other ↔ q ≠ p := by cases p <;> cases q <;> simp [Plane.other]
  rw [mem_writesOf_iff, mem_writesOf_iff]
  constructor
  · rintro ⟨w, hw, hid, hp⟩
    exact ⟨w, (mem_discard_writes hw).1, hid, hp⟩
  · rintro ⟨w, hw, hid, hp⟩
    obtain ⟨v, hv, hvid⟩ := (c.without p).advance_carries.named w (mem_without_writes.2 ⟨hw, (hother _).1 hp⟩)
    exact ⟨v, hv, hvid.trans hid, (hother _).2 (mem_discard_writes hv).2⟩

end Collector

/-! ### UNBIND (R102, R147) -/

/-- What the cancellation of a plane's jobs leaves of the engine: a pause that waited for a burst now withdrawn takes effect. -/
def State.cancelledFill (s : State) (p : Plane) : FillEngine :=
  let burst := (s.cancelHead p).fill.burst
  { jobs := s.fill.jobs.filter fun j => j.plane ≠ p
    burst := burst
    paused := s.fill.paused || (s.fill.pauseAsked && burst.isNone)
    pauseAsked := s.fill.pauseAsked && !burst.isNone }

theorem State.withoutJobs_eq (s : State) (p : Plane) :
    s.withoutJobs p =
      { s with planes := (s.withoutJobs p).planes, fill := { s.fill with jobs := s.fill.jobs.filter fun j => j.plane ≠ p } } := by
  unfold State.withoutJobs
  dsimp only
  split <;> rfl

/-- R147: a plane's jobs cancelled, its marks and the engine alone change. -/
theorem State.cancelJobs_parts (s : State) (p : Plane) :
    s.cancelJobs p =
      { s with
        planes := s.planes.setEntry p
          { s.planes.entry p with
            backgroundPending := (s.planes.entry p).backgroundPending && !s.fill.jobs.any (FillJob.isBackground p) }
        fill := s.cancelledFill p } := by
  have hplanes : (s.cancelJobs p).planes = s.planes.setEntry p
      { s.planes.entry p with
        backgroundPending := (s.planes.entry p).backgroundPending && !s.fill.jobs.any (FillJob.isBackground p) } :=
    congrArg Ruled.planes ((s.cancelJobs_ruled p).trans (s.withoutJobs_ruled p))
  obtain ⟨b, hb⟩ := s.cancelHead_eq p
  have hleft := State.withoutJobs_eq (s.cancelHead p) p
  rw [← hplanes, State.cancelJobs_eq, State.cancelledFill]
  generalize (s.cancelHead p).withoutJobs p = u at hleft ⊢
  rw [hb] at hleft ⊢
  split
  · next hpause =>
    rw [hleft] at hpause
    obtain ⟨hasked, hnone⟩ := Bool.and_eq_true_iff.1 hpause
    have hsettled : u.settlePause = { u with fill := { u.fill with paused := true, pauseAsked := false } } :=
      if_pos (by rw [hleft]; exact hasked)
    rw [hsettled, hleft]
    simp only [show s.fill.pauseAsked = true from hasked, show b.isNone = true from hnone, Bool.and_true, Bool.or_true, Bool.not_true,
      Bool.and_false]
  · next hpause =>
    rw [hleft] at hpause ⊢
    have hno : (s.fill.pauseAsked && b.isNone) = false := Bool.eq_false_iff.2 hpause
    have hstill : (s.fill.pauseAsked && !b.isNone) = s.fill.pauseAsked := by
      cases hasked : s.fill.pauseAsked with
      | false => rfl
      | true => rw [hasked, Bool.true_and] at hno; rw [hno]; rfl
    simp only [hno, hstill, Bool.or_false]

theorem State.cancelHead_of_head {s : State} {p : Plane} {job : FillJob} {rest : List FillJob} (hjobs : s.fill.jobs = job :: rest)
    (hplane : job.plane = p) : s.cancelHead p = s.cancelBurst := by
  rw [State.cancelHead, hjobs]
  exact if_pos hplane

theorem State.cancelHead_of_other {s : State} {p : Plane} (h : ∀ job rest, s.fill.jobs = job :: rest → job.plane ≠ p) :
    s.cancelHead p = s := by
  unfold State.cancelHead
  split
  · rfl
  · next job rest hjobs => exact if_neg (h job rest hjobs)

theorem State.cancelBurst_of_burst {s : State} {b : FillBurst} (h : s.fill.burst = some b) :
    s.cancelBurst.fill.burst = if b.granted then some { b with cancelled := true } else none := by
  rw [State.cancelBurst, h]

/-- The state with the plane unbound and its writes discarded, its jobs not yet cancelled. -/
def State.unboundWrites (s : State) (p : Plane) : State := { s.setBinding p none with collector := s.collector.discard p }

theorem State.unbindPlane_eq (s : State) (p : Plane) :
    s.unbindPlane p =
      { s.unboundWrites p with
        planes := s.planes.setEntry p
          { binding := none
            backgroundPending := (s.planes.entry p).backgroundPending && !s.fill.jobs.any (FillJob.isBackground p) }
        fill := (s.unboundWrites p).cancelledFill p } := by
  refine ((s.unboundWrites p).cancelJobs_parts p).trans ?_
  cases p <;> rfl

theorem State.cancelHead_burst_congr {s t : State} (h : t.fill = s.fill) (p : Plane) :
    (t.cancelHead p).fill.burst = (s.cancelHead p).fill.burst := by
  simp only [State.cancelHead, State.cancelBurst, h]
  split
  · rw [h]
  · split
    · split
      · rw [h]
      · rfl
    · rw [h]

theorem State.cancelledFill_congr {s t : State} (h : t.fill = s.fill) (p : Plane) : t.cancelledFill p = s.cancelledFill p := by
  rw [State.cancelledFill, State.cancelledFill, State.cancelHead_burst_congr h, h]

/-- The decoder has no part in an unbinding, so a record may be noted before or after. -/
theorem State.unbindPlane_noteTaken (s : State) (command : Word) (p : Plane) :
    (s.noteTaken command).unbindPlane p = (s.unbindPlane p).noteTaken command := by
  rw [State.unbindPlane_eq, State.unbindPlane_eq,
    State.cancelledFill_congr (s := s.unboundWrites p) (t := (s.noteTaken command).unboundWrites p) rfl]
  exact rfl

theorem State.takeUnbind_badPlane {plane : Word} (h : planeOf plane = none) (s : State) :
    s.takeUnbind plane = s.recordResult .badPlane := by
  rw [State.takeUnbind, h]

theorem State.takeUnbind_plane {plane : Word} {p : Plane} (h : planeOf plane = some p) (s : State) :
    s.takeUnbind plane =
      if s.planes.scanned = p then s.recordResult .inScan
      else if s.planes.switch ≠ .steady then s.recordResult .state
      else if (s.planes.entry p).binding = none then s.recordResult .ok
      else (s.unbindPlane p).recordResult .ok := by
  rw [State.takeUnbind, h]
  dsimp only
  simp only [Switch.isArmed_iff, Option.isNone_iff_eq_none]

/-- Settles O48: the checks in their order, then what the discard and the cancellation leave. -/
theorem unbindFollowsItsChecks : Obligations.UnbindFollowsItsChecks := by
  refine ⟨fun s plane hattends => ⟨fun hhigh => ?badPlane, fun p hplane => ?checked⟩, fun s p => ?_⟩
  case badPlane =>
    refine (exec_record_taken (command := 4) hattends rfl).trans ?_
    rw [State.takeUnbind_badPlane (planeOf_high plane hhigh), State.recordResult_noteTaken]
    exact rfl
  case checked =>
    refine (exec_record_taken (command := 4) hattends rfl).trans (congrArg (fun u : State => Host.Outcome.next u.conclude) ?_)
    rw [State.takeUnbind_plane (planeOf_number plane p hplane), State.unbindPlane_noteTaken]
    exact rfl
  intro t
  have ht : t = _ := s.unbindPlane_eq p
  rw [ht]
  refine ⟨?_, ?_, ?_, ?_, ?_, s.collector.discard_writesOf_same p, s.collector.discard_writesOf_other p, rfl, fun hbackground => ?_,
    fun job rest hjobs hplane => ⟨fun b hb hgranted => ?_, fun b hb hgranted => ?_⟩, fun job rest hjobs hplane => ?_, fun hjobs => ?_,
    rfl, rfl, rfl, rfl, rfl, rfl, rfl⟩
  · rw [Planes.entry_setEntry_same]
  · rw [Planes.entry_setEntry_of_ne _ _ p.other_ne]
  · cases p <;> rfl
  · cases p <;> rfl
  · cases p <;> rfl
  · obtain ⟨j, hj, hjplane, hkind⟩ := hbackground
    have hany : s.fill.jobs.any (FillJob.isBackground p) = true :=
      List.any_eq_true.2 ⟨j, hj, by simp [FillJob.isBackground, hjplane, hkind]⟩
    rw [Planes.entry_setEntry_same, hany]
    exact Bool.and_false _
  · have hburst : ((s.unboundWrites p).cancelHead p).fill.burst = none := by
      rw [State.cancelHead_of_head (s := s.unboundWrites p) hjobs hplane, State.cancelBurst_of_burst (s := s.unboundWrites p) hb, hgranted]
      rfl
    simp only [State.cancelledFill, hburst, Option.isNone_none, Bool.and_true, Bool.not_true, Bool.and_false, true_and, and_true]
    exact rfl
  · have hburst : ((s.unboundWrites p).cancelHead p).fill.burst = some { b with cancelled := true } := by
      rw [State.cancelHead_of_head (s := s.unboundWrites p) hjobs hplane, State.cancelBurst_of_burst (s := s.unboundWrites p) hb, hgranted]
      rfl
    simp only [State.cancelledFill, hburst, Option.isNone_some, Bool.and_false, Bool.or_false, Bool.not_false, Bool.and_true]
    exact ⟨trivial, rfl, rfl⟩
  · have hother : ((s.unboundWrites p).cancelHead p) = s.unboundWrites p := by
      refine State.cancelHead_of_other fun job' rest' hjobs' => ?_
      cases hjobs.symm.trans (show s.fill.jobs = job' :: rest' from hjobs')
      exact hplane
    rw [State.cancelledFill, hother]
    exact rfl
  · have hother : ((s.unboundWrites p).cancelHead p) = s.unboundWrites p := by
      refine State.cancelHead_of_other fun job' rest' hjobs' => ?_
      cases hjobs.symm.trans (show s.fill.jobs = job' :: rest' from hjobs')
    rw [State.cancelledFill, hother]
    exact rfl

end Sys2Proof.Machine
end

section
/-! COMMIT and CANCEL (R103, R104, R109), and the drain snapshot an armed switch takes (R89). -/

namespace Sys2Proof.Machine

namespace Collector

/-! ### What the taking of places leaves (R86, R87) -/

/-- Entries have at most left the table, and the drain sets are as they were. -/
structure Thins (c d : Collector) : Prop where
  table : d.table.Sublist c.table
  drains : d.drains = c.drains

theorem Thins.refl (c : Collector) : Thins c c := ⟨.refl _, rfl⟩

theorem Thins.trans {c d e : Collector} (h : Thins c d) (k : Thins d e) : Thins c e :=
  ⟨k.table.trans h.table, k.drains.trans h.drains⟩

theorem leaveOrdinary_thins (c : Collector) (id : Nat) : Thins c (c.leaveOrdinary id) := by
  unfold leaveOrdinary
  split
  · exact .refl c
  · exact ⟨List.filter_sublist, rfl⟩

theorem fillOrdinaryWith_thins (c : Collector) (ids : List Nat) : Thins c (c.fillOrdinaryWith ids) := by
  induction ids generalizing c with
  | nil => exact .refl c
  | cons id rest ih =>
    unfold fillOrdinaryWith
    split
    · exact (c.leaveOrdinary_thins id).trans (ih _)
    · exact .refl c

theorem movePriority_thins (c : Collector) (id : Nat) : Thins c (c.movePriority id) := by
  unfold movePriority
  split
  · exact ⟨.refl _, rfl⟩
  · split
    · exact ⟨List.filter_sublist, rfl⟩
    · exact .refl c

theorem moveEach_thins (c : Collector) (ids : List Nat) : Thins c (c.moveEach ids) := by
  induction ids generalizing c with
  | nil => exact .refl c
  | cons id rest ih =>
    unfold moveEach
    split
    · exact (c.movePriority_thins id).trans (ih _)
    · exact .refl c

theorem advance_thins (c : Collector) : Thins c c.advance := by
  have hmoved := c.moveEach_thins (c.requests.flatMap (·.moves))
  have hcarried : Thins c c.carryOut := ⟨hmoved.table, hmoved.drains⟩
  exact hcarried.trans (fillOrdinaryWith_thins _ _)

/-! ### What a request asks (R87) -/

theorem makeRequest_drains (c : Collector) (k : Key) : (c.makeRequest k).drains = c.drains := by
  unfold makeRequest
  split <;> rfl

theorem makeRequests_drains (c : Collector) (keys : List Key) : (c.makeRequests keys).drains = c.drains := by
  induction keys generalizing c with
  | nil => rfl
  | cons k rest ih => exact (ih _).trans (c.makeRequest_drains k)

theorem requestPriority_drains (c : Collector) (keys : List Key) : (c.requestPriority keys).drains = c.drains :=
  (advance_thins _).drains.trans (c.makeRequests_drains keys)

/-- The entries of a key stand as PRIORITY-WAITING. -/
def Hurried (c : Collector) (k : Key) : Prop := ∀ e ∈ c.table, e.key = k → e.flush = .priorityWaiting

theorem makeRequest_hurried (c : Collector) (k : Key) : (c.makeRequest k).Hurried k := by
  intro e he hkey
  by_cases hmoves : c.movesFor k = []
  · rw [makeRequest_of_none hmoves] at he
    have hentries : (c.table.filter fun x => decide (x.key = k)).map (·.id) = [] := (List.append_eq_nil_iff.1 hmoves).2
    have hentry : e ∈ c.table.filter fun x => decide (x.key = k) := List.mem_filter.2 ⟨he, decide_eq_true hkey⟩
    have hmem := List.mem_map_of_mem (f := fun x : Entry => x.id) hentry
    rw [hentries] at hmem
    cases hmem
  · rw [makeRequest_of_moves hmoves] at he
    obtain ⟨x, _, rfl⟩ := List.mem_map.1 he
    by_cases hx : x.key = k
    · rw [if_pos hx]
    · rw [if_neg hx] at hkey
      exact absurd hkey hx

theorem makeRequest_keeps_hurried {c : Collector} {k : Key} (h : c.Hurried k) (j : Key) : (c.makeRequest j).Hurried k := by
  intro e he hkey
  by_cases hmoves : c.movesFor j = []
  · rw [makeRequest_of_none hmoves] at he
    exact h e he hkey
  · rw [makeRequest_of_moves hmoves] at he
    obtain ⟨x, hx, rfl⟩ := List.mem_map.1 he
    by_cases hxj : x.key = j
    · rw [if_pos hxj]
    · rw [if_neg hxj] at hkey ⊢
      exact h x hx hkey

theorem makeRequests_keeps_hurried {c : Collector} {k : Key} (h : c.Hurried k) (keys : List Key) : (c.makeRequests keys).Hurried k := by
  induction keys generalizing c with
  | nil => exact h
  | cons j rest ih => exact ih (makeRequest_keeps_hurried h j)

theorem makeRequests_hurried (c : Collector) {keys : List Key} {k : Key} (h : k ∈ keys) : (c.makeRequests keys).Hurried k := by
  induction keys generalizing c with
  | nil => cases h
  | cons j rest ih =>
    obtain rfl | hrest := List.mem_cons.1 h
    · exact makeRequests_keeps_hurried (c.makeRequest_hurried _) rest
    · exact ih _ hrest

/-- A request changes no key. -/
theorem makeRequest_keys (c : Collector) (k : Key) : (c.makeRequest k).table.map (·.key) = c.table.map (·.key) := by
  by_cases hmoves : c.movesFor k = []
  · rw [makeRequest_of_none hmoves]
  · rw [makeRequest_of_moves hmoves]
    dsimp only
    rw [List.map_map]
    refine List.map_congr_left fun x _ => ?_
    simp only [Function.comp_apply]
    split <;> rfl

theorem makeRequests_keys (c : Collector) (keys : List Key) : (c.makeRequests keys).table.map (·.key) = c.table.map (·.key) := by
  induction keys generalizing c with
  | nil => rfl
  | cons k rest ih => exact (ih _).trans (c.makeRequest_keys k)

/-- R89: every entry of the plane drained is PRIORITY-WAITING or gone. -/
theorem requestPriority_drainKeys_hurried (c : Collector) (p : Plane) {e : Entry} (he : e ∈ (c.requestPriority (c.drainKeys p)).table)
    (hplane : e.key.plane = p) : e.flush = .priorityWaiting := by
  have hmade : e ∈ (c.makeRequests (c.drainKeys p)).table := (advance_thins _).table.subset he
  have hkey : e.key ∈ c.table.map (·.key) := c.makeRequests_keys (c.drainKeys p) ▸ List.mem_map_of_mem (f := fun x : Entry => x.key) hmade
  refine c.makeRequests_hurried ?_ e hmade rfl
  obtain ⟨x, hx, hxkey⟩ := List.mem_map.1 hkey
  refine List.mem_eraseDups.2 (List.mem_append_right _ (List.mem_map.2 ⟨x, List.mem_filter.2 ⟨hx, ?_⟩, hxkey⟩))
  exact decide_eq_true (by rw [hxkey]; exact hplane)

/-! ### The drain (R89) -/

theorem drain_table (c : Collector) (p : Plane) (commit : Nat) (flying : List Nat) :
    (c.drain p commit flying).table = (c.requestPriority (c.drainKeys p)).table := by
  unfold drain
  dsimp only
  split <;> rfl

theorem drain_writes (c : Collector) (p : Plane) (commit : Nat) (flying : List Nat) :
    (c.drain p commit flying).writes = (c.requestPriority (c.drainKeys p)).writes := by
  unfold drain
  dsimp only
  split <;> rfl

theorem drain_drains (c : Collector) (p : Plane) (commit : Nat) (flying : List Nat) :
    (c.drain p commit flying).drains =
      if flying ++ c.writesOf p = [] then c.drains
      else c.drains ++ [{ commit := commit, unwritten := flying ++ c.writesOf p }] := by
  unfold drain
  dsimp only
  by_cases hnone : flying ++ c.writesOf p = []
  · rw [if_pos (by rw [hnone]; rfl), if_pos hnone, requestPriority_drains]
  · rw [if_neg (by simpa using hnone), if_neg hnone]
    exact congrArg (· ++ _) (c.requestPriority_drains _)

theorem drain_carries (c : Collector) (p : Plane) (commit : Nat) (flying : List Nat) : Carries c (c.drain p commit flying) :=
  (c.requestPriority_carries _).trans (.of_eq (c.drain_writes p commit flying))

theorem draining_drain {c : Collector} {commit : Nat} (hfresh : ∀ d ∈ c.drains, d.commit ≠ commit) (p : Plane) (flying : List Nat) :
    (c.drain p commit flying).draining commit = true ↔ ∃ id, id ∈ flying ++ c.writesOf p := by
  rw [draining, drain_drains]
  by_cases hnone : flying ++ c.writesOf p = []
  · rw [if_pos hnone, hnone]
    simpa using hfresh
  · rw [if_neg hnone]
    simpa using List.exists_mem_of_ne_nil _ hnone

end Collector

/-! ### The burst in flight in a snapshot (R89, R104, log 32) -/

theorem Flight.mem_flushOf_iff (f : Flight) (p : Plane) (id : Nat) :
    id ∈ f.flushOf p ↔ ∃ key, f.wanted = true ∧ key.plane = p ∧ (f.origin = .priority id key ∨ f.origin = .ordinary id key) := by
  have hone (i : Nat) (key : Key) :
      id ∈ (if f.wanted && decide (key.plane = p) then [i] else []) ↔ f.wanted = true ∧ key.plane = p ∧ i = id := by
    split
    · next h =>
      obtain ⟨hwanted, hp⟩ := Bool.and_eq_true_iff.1 h
      simp [hwanted, of_decide_eq_true hp, eq_comm]
    · next h =>
      refine ⟨nofun, fun ⟨hwanted, hp, _⟩ => absurd ?_ h⟩
      rw [hwanted, decide_eq_true hp]
      rfl
  unfold Flight.flushOf
  split
  · next i key horigin =>
    rw [hone, horigin]
    constructor
    · rintro ⟨hwanted, hp, rfl⟩
      exact ⟨key, hwanted, hp, .inl rfl⟩
    · rintro ⟨_, hwanted, hp, h | h⟩ <;> cases h
      exact ⟨hwanted, hp, rfl⟩
  · next i key horigin =>
    rw [hone, horigin]
    constructor
    · rintro ⟨hwanted, hp, rfl⟩
      exact ⟨key, hwanted, hp, .inr rfl⟩
    · rintro ⟨_, hwanted, hp, h | h⟩ <;> cases h
      exact ⟨hwanted, hp, rfl⟩
  all_goals simp_all

theorem State.mem_flying_flush_iff (s : State) (p : Plane) (id : Nat) :
    id ∈ s.flying (Flight.flushOf p) ↔
      ∃ f key, s.port = some f ∧ f.wanted = true ∧ key.plane = p ∧ (f.origin = .priority id key ∨ f.origin = .ordinary id key) := by
  unfold State.flying
  split
  · next hnone => simp [hnone]
  · next f hport => simp [hport, Flight.mem_flushOf_iff]

theorem State.flying_straight {s : State} {f : Flight} {id : Nat} {p : Plane} (hport : s.port = some f)
    (horigin : f.origin = .path id (.straight p)) (hwanted : f.wanted = true) : s.flying (Flight.straightOf p) = [id] := by
  simp [State.flying, hport, Flight.straightOf, horigin, hwanted]

theorem State.flying_straight_none {s : State} {p : Plane}
    (h : ∀ f id, s.port = some f → f.origin = .path id (.straight p) → f.wanted = false) : s.flying (Flight.straightOf p) = [] := by
  unfold State.flying
  split
  · rfl
  · next f hport =>
    unfold Flight.straightOf
    split
    · next id q horigin =>
      refine if_neg fun hflies => ?_
      obtain ⟨hwanted, hplane⟩ := Bool.and_eq_true_iff.1 hflies
      obtain rfl := of_decide_eq_true hplane
      rw [h f id hport horigin] at hwanted
      cases hwanted
    all_goals rfl

/-! ### COMMIT and CANCEL -/

/-- The record of a switch armed now (R103, R104). -/
def State.armRecord (s : State) (cause : ArmCause) : ArmRecord where
  cause := cause
  target := s.planes.idle
  commit := s.nextId
  limit := s.planes.swapLimit
  collectorWaiting :=
    (s.collector.drain s.planes.idle s.nextId (s.flying (Flight.flushOf s.planes.idle))).draining s.nextId
  pathWaiting := s.straightSegments s.planes.idle
  selectMoved := false

theorem State.arm_collector (s : State) (cause : ArmCause) :
    (s.arm cause).collector = s.collector.drain s.planes.idle s.nextId (s.flying (Flight.flushOf s.planes.idle)) := rfl

theorem State.mem_snapshot_iff (s : State) (p : Plane) (id : Nat) :
    id ∈ s.flying (Flight.flushOf p) ++ s.collector.writesOf p ↔
      (∃ w ∈ s.collector.priority ++ s.collector.ordinary, w.id = id ∧ w.key.plane = p) ∨
        (∃ e ∈ s.collector.table, e.id = id ∧ e.key.plane = p) ∨
        ∃ f key, s.port = some f ∧ f.wanted = true ∧ key.plane = p ∧ (f.origin = .priority id key ∨ f.origin = .ordinary id key) := by
  rw [List.mem_append, State.mem_flying_flush_iff, Collector.mem_writesOf_iff]
  constructor
  · rintro (hflies | ⟨w, hw, hid, hp⟩)
    · exact .inr (.inr hflies)
    · obtain hw | hw | ⟨e, he, rfl⟩ := Collector.mem_writes_iff.1 hw
      · exact .inl ⟨w, List.mem_append_left _ hw, hid, hp⟩
      · exact .inl ⟨w, List.mem_append_right _ hw, hid, hp⟩
      · exact .inr (.inl ⟨e, he, hid, hp⟩)
  · rintro (⟨w, hw, hid, hp⟩ | ⟨e, he, hid, hp⟩ | hflies)
    · exact .inr ⟨w, Collector.mem_writes_iff.2 ((List.mem_append.1 hw).imp_right .inl), hid, hp⟩
    · exact .inr ⟨e.toWrite, Collector.mem_writes_iff.2 (.inr (.inr ⟨e, he, rfl⟩)), hid, hp⟩
    · exact .inl hflies

theorem State.takeCommit_eq (s : State) :
    s.takeCommit =
      if s.planes.switch ≠ .steady then s.recordResult .state
      else if (s.planes.entry s.planes.idle).binding = none then s.recordResult .noTarget
      else (s.arm .host).recordResult .ok := by
  simp only [State.takeCommit, Switch.isArmed_iff, Option.isNone_iff_eq_none]

/-- Settles O49: COMMIT and CANCEL by the switch; the snapshot is what `drain` and the queue hold of the target. -/
theorem commitAndCancel : Obligations.CommitAndCancel := by
  refine ⟨fun s hattends => ⟨?commit, fun hsteady => ?steady, fun r harmed => ?cancel⟩, fun s cause hfresh => ?snapshot⟩
  case commit =>
    refine (exec_record_taken (command := 5) hattends rfl).trans (congrArg (fun u : State => Host.Outcome.next u.conclude) ?_)
    rw [State.takeCommit_eq]
    exact rfl
  case steady =>
    refine (exec_record_taken (command := 6) hattends rfl).trans (congrArg (fun u : State => Host.Outcome.next u.conclude) ?_)
    rw [State.takeCancel, show (s.noteTaken 6).planes.switch = .steady from hsteady]
    exact rfl
  case cancel =>
    refine (exec_record_taken (command := 6) hattends rfl).trans (congrArg (fun u : State => Host.Outcome.next u.conclude) ?_)
    rw [State.takeCancel, show (s.noteTaken 6).planes.switch = .armed r from harmed]
    exact rfl
  case snapshot =>
    intro target
    have hawaited (id : Nat) := s.mem_snapshot_iff target id
    refine ⟨s.armRecord cause, rfl, rfl, rfl, rfl, rfl, rfl, ⟨fun f id hport horigin hwanted => ?_, fun hnone => ?_⟩, ?_,
      fun e he hplane => ?_, fun hids p id => ?_⟩
    · show s.flying (Flight.straightOf target) ++ _ = _
      rw [State.flying_straight hport horigin hwanted]
      exact rfl
    · show s.flying (Flight.straightOf target) ++ _ = _
      rw [State.flying_straight_none hnone]
      exact rfl
    · intro awaited
      have hdrains : (s.arm cause).collector.drains = _ := s.collector.drain_drains target s.nextId (s.flying (Flight.flushOf target))
      have hwaiting : (s.armRecord cause).collectorWaiting = true ↔ ∃ id, awaited id :=
        (Collector.draining_drain hfresh target _).trans (exists_congr hawaited)
      refine ⟨hwaiting, fun ⟨id, hid⟩ => ?_, fun hnone => ?_⟩
      · refine ⟨{ commit := s.nextId, unwritten := s.flying (Flight.flushOf target) ++ s.collector.writesOf target }, ?_, rfl, hawaited⟩
        rw [hdrains, if_neg (List.ne_nil_of_mem ((hawaited id).2 hid))]
      · rw [hdrains, if_pos (List.eq_nil_iff_forall_not_mem.2 fun id hid => hnone id ((hawaited id).1 hid))]
    · rw [State.arm_collector, Collector.drain_table] at he
      exact s.collector.requestPriority_drainKeys_hurried target he hplane
    · rw [State.arm_collector]
      exact (Collector.drain_carries _ _ _ _).writesOf_iff (by rw [Collector.writes_ids]; exact hids) p id

end Sys2Proof.Machine
end

section
/-! Regions, pieces and lanes (R3, R7, R44 to R55): how a request is cut, and how the lanes of a write piece come in hand. -/

namespace Sys2Proof.Machine

/-! ### Regions (R3) -/

/-- The regions in the order of their addresses. -/
def Region.place : Region → Nat
  | .below => 0
  | .aperture .A => 1
  | .aperture .B => 2
  | .descriptor => 3
  | .direct => 4
  | .above => 5

/-- The region at a place of the order. -/
def Region.ofPlace : Nat → Region
  | 0 => .below
  | 1 => .aperture .A
  | 2 => .aperture .B
  | 3 => .descriptor
  | 4 => .direct
  | _ => .above

theorem Region.ofPlace_place (r : Region) : Region.ofPlace r.place = r := by
  cases r with
  | aperture p => cases p <;> rfl
  | _ => rfl

theorem Region.eq_of_place {r q : Region} (h : r.place = q.place) : r = q := by
  rw [← r.ofPlace_place, h, q.ofPlace_place]

theorem regionOf_eq (fb a : Nat) :
    regionOf fb a =
      if a < fb then .below
      else if a < fb + 0x2000000 then .aperture .A
      else if a < fb + 0x4000000 then .aperture .B
      else if a < fb + 0x4010000 then .descriptor
      else if a < fb + 0x8000000 then .direct
      else .above := by
  unfold regionOf Config.apertureBytes Config.descriptorOffset Config.descriptorBytes Config.frameRangeBytes
  norm_num [Nat.add_assoc]

theorem regionOf_bounds (fb a : Nat) :
    (regionOf fb a = .below ↔ a < fb) ∧
      (regionOf fb a = .aperture .A ↔ fb ≤ a ∧ a < fb + 0x2000000) ∧
      (regionOf fb a = .aperture .B ↔ fb + 0x2000000 ≤ a ∧ a < fb + 0x4000000) ∧
      (regionOf fb a = .descriptor ↔ fb + 0x4000000 ≤ a ∧ a < fb + 0x4010000) ∧
      (regionOf fb a = .direct ↔ fb + 0x4010000 ≤ a ∧ a < fb + 0x8000000) ∧
      (regionOf fb a = .above ↔ fb + 0x8000000 ≤ a) := by
  rw [regionOf_eq]
  by_cases h1 : a < fb
  · simp [h1]; omega
  by_cases h2 : a < fb + 0x2000000
  · simp [h1, h2]; omega
  by_cases h3 : a < fb + 0x4000000
  · simp [h1, h2, h3]; omega
  by_cases h4 : a < fb + 0x4010000
  · simp [h1, h2, h3, h4]; omega
  by_cases h5 : a < fb + 0x8000000
  · simp [h1, h2, h3, h4, h5]; omega
  · simp [h1, h2, h3, h4, h5]; omega

/-- Regions rise with the address, and a range shorter than the shortest of them crosses one boundary at most. -/
theorem regionOf_place_near {fb a b : Nat} (h : a ≤ b) :
    (regionOf fb a).place ≤ (regionOf fb b).place ∧ (b < a + 0x10000 → (regionOf fb b).place ≤ (regionOf fb a).place + 1) := by
  rw [regionOf_eq fb a, regionOf_eq fb b]
  split_ifs <;> simp only [Region.place] <;> omega

/-- A region is a range: what lies between two of its addresses is in it. -/
theorem regionOf_between {fb a b c : Nat} (hab : a ≤ b) (hbc : b ≤ c) (h : regionOf fb c = regionOf fb a) :
    regionOf fb b = regionOf fb a := by
  have hhigh := (regionOf_place_near (fb := fb) hbc).1
  rw [h] at hhigh
  exact Region.eq_of_place (Nat.le_antisymm hhigh (regionOf_place_near hab).1)

/-- Behind the one boundary a short range crosses it stays in one region. -/
theorem regionOf_beyond {fb a b c : Nat} (hab : a ≤ b) (hbc : b ≤ c) (hc : c < a + 0x10000) (h : regionOf fb b ≠ regionOf fb a) :
    regionOf fb c = regionOf fb b := by
  have hne : (regionOf fb b).place ≠ (regionOf fb a).place := fun heq => h (Region.eq_of_place heq)
  have hb := (regionOf_place_near (fb := fb) hab).1
  have hcb := (regionOf_place_near (fb := fb) hbc).1
  have hca := (regionOf_place_near (fb := fb) (hab.trans hbc)).2 hc
  exact Region.eq_of_place (by omega)

/-! ### Pieces (R7) -/

theorem beatsInRegion_le (fb a n : Nat) : beatsInRegion fb a n ≤ n := by
  induction n with
  | zero => exact Nat.le_refl 0
  | succ n ih =>
    unfold beatsInRegion
    split
    · exact Nat.le_refl _
    · exact Nat.le_succ_of_le ih

theorem beatsInRegion_pos (fb a : Nat) {n : Nat} (h : 0 < n) : 0 < beatsInRegion fb a n := by
  induction n with
  | zero => cases h
  | succ n ih =>
    unfold beatsInRegion
    split
    · exact Nat.succ_pos n
    · next hne =>
      refine ih (Nat.pos_of_ne_zero ?_)
      rintro rfl
      exact hne rfl

theorem regionOf_beatsInRegion {fb a n i : Nat} (h : i < beatsInRegion fb a n) : regionOf fb (a + 16 * i) = regionOf fb a := by
  induction n with
  | zero => cases h
  | succ n ih =>
    unfold beatsInRegion at h
    split at h
    · next hlast => exact regionOf_between (by omega) (by omega) hlast
    · exact ih h

theorem regionOf_beatsInRegion_end {fb a n : Nat} (h : beatsInRegion fb a n < n) :
    regionOf fb (a + 16 * beatsInRegion fb a n) ≠ regionOf fb a := by
  induction n with
  | zero => cases h
  | succ n ih =>
    unfold beatsInRegion at h ⊢
    split at h
    · exact absurd h (Nat.lt_irrefl _)
    · next hne =>
      rw [if_neg hne]
      obtain hlt | heq := Nat.lt_or_eq_of_le (beatsInRegion_le fb a n)
      · exact ih hlt
      · rw [heq]
        exact hne

theorem Payload.length_take (n : Nat) (p : Payload) : (p.take n).length = min n p.length := by
  cases p <;> exact List.length_take

theorem Payload.length_drop (n : Nat) (p : Payload) : (p.drop n).length = p.length - n := by
  cases p <;> exact List.length_drop

theorem Request.wf_iff (r : Request) : r.wf = true ↔ 1 ≤ r.payload.length ∧ r.payload.length ≤ 16 := by
  simp [Request.wf]

/-- R7: the one piece, or the two that meet at the boundary. -/
theorem piecesOf_of_whole {fb : Nat} {r : Request} (h : r.payload.length ≤ beatsInRegion fb r.addr r.payload.length) :
    piecesOf fb r = [{ region := regionOf fb r.addr, addr := r.addr, payload := r.payload, first := 0 }] := if_pos h

theorem piecesOf_of_cut {fb k : Nat} {r : Request} (hk : beatsInRegion fb r.addr r.payload.length = k) (h : k < r.payload.length) :
    piecesOf fb r =
      [{ region := regionOf fb r.addr, addr := r.addr, payload := r.payload.take k, first := 0 },
        { region := regionOf fb (r.addr + 16 * k), addr := r.addr + 16 * k, payload := r.payload.drop k, first := k }] := by
  subst hk
  exact if_neg (Nat.not_le.2 h)

/-- Settles O24: a request is cut where its first region ends, and is too short to cross a second boundary. -/
theorem piecesCoverTheRequest : Obligations.PiecesCoverTheRequest := by
  refine ⟨⟨rfl, rfl, rfl, rfl⟩, regionOf_bounds, fun strap1 strap0 r hwf => ?_⟩
  intro fb
  obtain ⟨hpos, hshort⟩ := (Request.wf_iff r).1 hwf
  obtain ⟨k, hk⟩ : ∃ k, beatsInRegion fb r.addr r.payload.length = k := ⟨_, rfl⟩
  obtain hwhole | hcut := Nat.lt_or_ge k r.payload.length |>.symm
  · have hpieces := piecesOf_of_whole (hk ▸ hwhole)
    refine ⟨?_, .inl hpieces⟩
    rw [hpieces]
    intro p hp i hi
    obtain rfl := List.mem_singleton.1 hp
    exact regionOf_beatsInRegion (hk ▸ Nat.lt_of_lt_of_le hi hwhole)
  · have hpieces := piecesOf_of_cut hk hcut
    have hend : regionOf fb (r.addr + 16 * k) ≠ regionOf fb r.addr := hk ▸ regionOf_beatsInRegion_end (hk ▸ hcut)
    refine ⟨?_, .inr ⟨k, hk ▸ beatsInRegion_pos fb r.addr hpos, hcut, hend, hpieces⟩⟩
    rw [hpieces]
    intro p hp i hi
    obtain rfl | hp := List.mem_cons.1 hp
    · rw [Payload.length_take] at hi
      exact regionOf_beatsInRegion (hk ▸ Nat.lt_of_lt_of_le hi (Nat.min_le_left _ _))
    · obtain rfl := List.mem_singleton.1 hp
      rw [Payload.length_drop] at hi
      rw [Nat.add_assoc, ← Nat.mul_add]
      exact regionOf_beyond (by omega) (by omega) (by omega) hend

end Sys2Proof.Machine
end

section
/-! The beats of a row run (R53, R58), and the lanes of a write piece as they come in hand (R50, R54, R55, R70 to R72). -/

namespace Sys2Proof.Machine

/-! ### Lowest and highest beat -/

theorem lowBeat_cons (x y : Nat) (xs : List Nat) : lowBeat (x :: y :: xs) = min (x / 4) (lowBeat (y :: xs)) := rfl

theorem lowBeat_le {xs : List Nat} {x : Nat} (h : x ∈ xs) : lowBeat xs ≤ x / 4 := by
  induction xs with
  | nil => cases h
  | cons a rest ih =>
    cases rest with
    | nil => exact (List.mem_singleton.1 h) ▸ Nat.le_refl _
    | cons b rest =>
      rw [lowBeat_cons]
      obtain rfl | h := List.mem_cons.1 h
      · exact Nat.min_le_left _ _
      · exact (Nat.min_le_right _ _).trans (ih h)

theorem le_highBeat {xs : List Nat} {x : Nat} (h : x ∈ xs) : x / 4 ≤ highBeat xs := by
  induction xs with
  | nil => cases h
  | cons a rest ih =>
    obtain rfl | h := List.mem_cons.1 h
    · exact Nat.le_max_left _ _
    · exact (ih h).trans (Nat.le_max_right _ _)

theorem exists_lowBeat {xs : List Nat} (h : xs ≠ []) : ∃ x ∈ xs, x / 4 = lowBeat xs := by
  induction xs with
  | nil => exact absurd rfl h
  | cons a rest ih =>
    cases rest with
    | nil => exact ⟨a, List.mem_singleton_self a, rfl⟩
    | cons b rest =>
      rw [lowBeat_cons]
      obtain ⟨x, hx, hlow⟩ := ih (List.cons_ne_nil b rest)
      obtain hmin | hmin := min_choice (a / 4) (lowBeat (b :: rest))
      · exact ⟨a, List.mem_cons_self, hmin.symm⟩
      · exact ⟨x, List.mem_cons_of_mem a hx, hlow.trans hmin.symm⟩

theorem exists_highBeat {xs : List Nat} (h : xs ≠ []) : ∃ x ∈ xs, x / 4 = highBeat xs := by
  induction xs with
  | nil => exact absurd rfl h
  | cons a rest ih =>
    change ∃ x ∈ a :: rest, x / 4 = max (a / 4) (highBeat rest)
    cases rest with
    | nil => exact ⟨a, List.mem_singleton_self a, (Nat.max_eq_left (Nat.zero_le _)).symm⟩
    | cons b rest =>
      obtain ⟨x, hx, hhigh⟩ := ih (List.cons_ne_nil b rest)
      obtain hmax | hmax := max_choice (a / 4) (highBeat (b :: rest))
      · exact ⟨a, List.mem_cons_self, hmax.symm⟩
      · exact ⟨x, List.mem_cons_of_mem a hx, hhigh.trans hmax.symm⟩

/-! ### The lane at a column -/

theorem Quad.get_ofFn {α : Type} (f : Nat → α) {k : Nat} (h : k < 4) : (Quad.ofFn f).get k = f k := by
  match k, h with
  | 0, _ => rfl
  | 1, _ => rfl
  | 2, _ => rfl
  | 3, _ => rfl

section LaneAt
variable {α : Type} {blank a : α} {x : Nat} {lanes : List (Nat × α)}

/-- Lanes of one column that agree are the lane there. -/
theorem laneAt_of_mem (h : (x, a) ∈ lanes) (hagree : ∀ p ∈ lanes, p.1 = x → p.2 = a) : laneAt blank x lanes = a := by
  induction lanes with
  | nil => cases h
  | cons p rest ih =>
    unfold laneAt
    split
    · next hx => exact hagree p List.mem_cons_self hx
    · next hx =>
      refine ih ((List.mem_cons.1 h).resolve_left ?_) fun q hq => hagree q (List.mem_cons_of_mem p hq)
      rintro rfl
      exact hx rfl

theorem laneAt_of_forall_ne (h : ∀ p ∈ lanes, p.1 ≠ x) : laneAt blank x lanes = blank := by
  induction lanes with
  | nil => rfl
  | cons p rest ih =>
    unfold laneAt
    rw [if_neg (h p List.mem_cons_self)]
    exact ih fun q hq => h q (List.mem_cons_of_mem p hq)

end LaneAt

/-! ### The beats of a row run -/

/-- What the beats of a row run hold: from the lowest to the highest beat of its columns, each lane at its place. -/
structure RowSpan {α : Type} (blank : α) (lanes : List (Nat × α)) (low : Nat) (beats : List (Quad α)) : Prop where
  pos : 0 < beats.length
  first : ∃ p ∈ lanes, p.1 / 4 = low
  last : ∃ p ∈ lanes, p.1 / 4 = low + beats.length - 1
  within : ∀ p ∈ lanes, low ≤ p.1 / 4 ∧ p.1 / 4 < low + beats.length
  lane : ∀ n k d, n < beats.length → k < 4 → (beats.getD n d).get k = laneAt blank (4 * (low + n) + k) lanes

theorem rowBeats_span {α : Type} (blank : α) {lanes : List (Nat × α)} (h : lanes ≠ []) :
    RowSpan blank lanes (lowBeat (lanes.map (·.1))) (rowBeats blank lanes) := by
  have hcolumns : lanes.map (·.1) ≠ [] := fun heq => h (List.map_eq_nil_iff.1 heq)
  have hlength : (rowBeats blank lanes).length = highBeat (lanes.map (·.1)) - lowBeat (lanes.map (·.1)) + 1 := by simp [rowBeats]
  obtain ⟨low, hlow, hfirst⟩ := exists_lowBeat hcolumns
  obtain ⟨high, hhigh, hlast⟩ := exists_highBeat hcolumns
  have horder := le_highBeat hlow
  obtain ⟨p, hp, rfl⟩ := List.mem_map.1 hlow
  obtain ⟨q, hq, rfl⟩ := List.mem_map.1 hhigh
  refine ⟨by omega, ⟨p, hp, hfirst⟩, ⟨q, hq, by omega⟩, fun r hr => ?_, fun n k d hn hk => ?_⟩
  · have hr1 := lowBeat_le (List.mem_map_of_mem (f := (·.1)) hr)
    have hr2 := le_highBeat (List.mem_map_of_mem (f := (·.1)) hr)
    omega
  · rw [List.getD_eq_getElem _ _ hn]
    simp only [rowBeats, List.getElem_map, List.getElem_range]
    exact Quad.get_ofFn _ hk

/-- The lane of the row run at its own column. -/
theorem RowSpan.get_of_mem {α : Type} {blank : α} {lanes : List (Nat × α)} {low : Nat} {beats : List (Quad α)}
    (hspan : RowSpan blank lanes low beats) {x : Nat} {a : α} (h : (x, a) ∈ lanes) (hagree : ∀ p ∈ lanes, p.1 = x → p.2 = a)
    (d : Quad α) : (beats.getD (x / 4 - low) d).get (x % 4) = a := by
  have hx : low ≤ x / 4 ∧ x / 4 < low + beats.length := hspan.within (x, a) h
  rw [hspan.lane _ _ d (by omega) (Nat.mod_lt _ (by decide)), show 4 * (low + (x / 4 - low)) + x % 4 = x by omega]
  exact laneAt_of_mem h hagree

/-! ### Shared beats (R54) -/

theorem Rect.meetsBeat_iff (r : Rect) (b y : Nat) : r.meetsBeat b y = true ↔ ∃ k < 4, r.covers (4 * b + k) y = true := by
  simp only [Rect.meetsBeat, Bool.or_eq_true]
  constructor
  · rintro (((h | h) | h) | h)
    · exact ⟨0, by decide, h⟩
    · exact ⟨1, by decide, h⟩
    · exact ⟨2, by decide, h⟩
    · exact ⟨3, by decide, h⟩
  · rintro ⟨k, hk, h⟩
    match k, hk with
    | 0, _ => exact .inl (.inl (.inl h))
    | 1, _ => exact .inl (.inl (.inr h))
    | 2, _ => exact .inl (.inr h)
    | 3, _ => exact .inr h

theorem beatShared_iff (layout : Option Layout) (x y : Nat) :
    beatShared layout x y = true ↔
      ∃ l, layout = some l ∧
        2 ≤ (l.views.filter fun v => decide (∃ k < 4, v.panelRect.covers (4 * (x / 4) + k) y = true)).length := by
  cases layout with
  | none => simp [beatShared]
  | some l =>
    have hmeets : (fun v : View => v.panelRect.meetsBeat (x / 4) y) =
        fun v => decide (∃ k < 4, v.panelRect.covers (4 * (x / 4) + k) y = true) :=
      funext fun v => Bool.eq_iff_iff.2 ((v.panelRect.meetsBeat_iff _ _).trans decide_eq_true_iff.symm)
    simp only [beatShared, hmeets, decide_eq_true_eq, Option.some.injEq, exists_eq_left']
    exact Iff.rfl

/-! ### Saturations (R70) -/

theorem State.reportSaturations_zero (s : State) : s.reportSaturations 0 = s := if_pos rfl

theorem State.reportSaturations_of_pos (s : State) {n : Nat} (h : 0 < n) :
    s.reportSaturations n = (s.count .saturation n).report .saturate := if_neg (Nat.ne_of_gt h)

theorem runReports_eq (spine : Option Spine) (lanes : List PlacedLane) :
    runReports spine lanes = (lanes.map fun p => laneReports spine p.x p.bytes).sum := by
  induction lanes with
  | nil => rfl
  | cons p rest ih => rw [List.map_cons, List.sum_cons, ← ih, runReports]

/-- R70: the saturation counter and SATURATE after the saturations of a step. -/
def SaturationsTold (n : Nat) (s t : State) : Prop :=
  (n = 0 → t.status = s.status) ∧
    (0 < n → t.status.counters.saturation = min 65535 (s.status.counters.saturation + n) ∧ t.flag .saturate = true)

theorem State.reportSaturations_told (s : State) (n : Nat) : SaturationsTold n s (s.reportSaturations n) := by
  refine ⟨?_, fun hpos => ?_⟩
  · rintro rfl
    rw [s.reportSaturations_zero]
  · rw [s.reportSaturations_of_pos hpos, State.report_counters, State.report_flag]
    exact ⟨rfl, rfl⟩

/-! ### Lanes in hand -/

section TakeInHand
variable (s : State) (plane : Plane) (layout : Option Layout) (rest : List LaneStep)

theorem State.takeInHand_nil : s.takeInHand plane layout [] = { s with translator := .idle } := rfl

theorem State.takeInHand_orphan : s.takeInHand plane layout (.orphan :: rest) = s.dropOrphan.takeInHand plane layout rest := rfl

theorem State.takeInHand_padding : s.takeInHand plane layout (.padding :: rest) = s.dropPadding.takeInHand plane layout rest := rfl

theorem State.takeInHand_run (v row : Nat) (lanes : List PlacedLane) :
    s.takeInHand plane layout (.run v row lanes :: rest) =
      { s.reportSaturations (runReports (s.boundSpine plane) lanes) with
        translator := .writing
          { plane := plane, layout := layout, todo := rest,
            hand := .segment (runAddr (planeBase s.fb plane) lanes) (runBeats (s.boundSpine plane) lanes) } } := rfl

theorem State.takeInHand_turned (lane : PlacedLane) :
    s.takeInHand plane layout (.turned lane :: rest) =
      { s.reportSaturations (laneReports (s.boundSpine plane) lane.x lane.bytes) with
        translator := .writing
          { plane := plane, layout := layout, todo := rest,
            hand := .insert (insertOf layout (s.boundSpine plane) plane (planeBase s.fb plane) lane) false } } := rfl

end TakeInHand

theorem runAddr_eq {base y : Nat} {lanes : List PlacedLane} (h : lanes ≠ []) (hy : ∀ p ∈ lanes, p.y = y) :
    runAddr base lanes = base + y * 9600 + lowBeat (lanes.map (·.x)) * 16 := by
  cases lanes with
  | nil => exact absurd rfl h
  | cons p rest => rw [← hy p List.mem_cons_self]; rfl

/-- R53, R71: the beats of a row run with its lanes gained. -/
theorem runBeats_span (spine : Option Spine) {lanes : List PlacedLane} (h : lanes ≠ []) :
    RowSpan noBytes (lanes.map fun p => (p.x, gainLane spine p.x p.bytes)) (lowBeat (lanes.map (·.x))) (runBeats spine lanes) := by
  have hspan := rowBeats_span noBytes (lanes := lanes.map fun p => (p.x, gainLane spine p.x p.bytes)) (by simpa using h)
  rwa [List.map_map] at hspan

/-- Settles O59: each step of a piece's lanes by its own equation, the beats of a run by the span of its columns. -/
theorem lanesComeInHand : Obligations.LanesComeInHand := by
  intro s plane layout rest
  refine ⟨rfl, rfl, rfl, fun v row y lanes hne hy hnodup => ?run, fun lane => ?turned⟩
  case run =>
    intro t reports
    have hspan := runBeats_span (s.boundSpine plane) hne
    refine ⟨⟨lowBeat (lanes.map (·.x)), runBeats (s.boundSpine plane) lanes, ?_, hspan.pos, ?_, ?_, fun p hp => ?_,
      fun n k hn hk hother => ?_⟩, ?_⟩
    · rw [← runAddr_eq hne hy]
      exact rfl
    · obtain ⟨_, hlane, heq⟩ := hspan.first
      obtain ⟨p, hp, rfl⟩ := List.mem_map.1 hlane
      exact ⟨p, hp, heq⟩
    · obtain ⟨_, hlane, heq⟩ := hspan.last
      obtain ⟨p, hp, rfl⟩ := List.mem_map.1 hlane
      exact ⟨p, hp, heq⟩
    · have hmem := List.mem_map_of_mem (f := fun p : PlacedLane => (p.x, gainLane (s.boundSpine plane) p.x p.bytes)) hp
      obtain ⟨hlow, hhigh⟩ := hspan.within _ hmem
      refine ⟨hlow, hhigh, hspan.get_of_mem hmem (fun q hq hx => ?_) _⟩
      obtain ⟨r, hr, rfl⟩ := List.mem_map.1 hq
      rw [List.inj_on_of_nodup_map hnodup hr hp hx]
    · rw [hspan.lane n k _ hn hk]
      refine laneAt_of_forall_ne fun q hq => ?_
      obtain ⟨r, hr, rfl⟩ := List.mem_map.1 hq
      exact hother r hr
    · have hreports : reports = runReports (s.boundSpine plane) lanes := (runReports_eq _ _).symm
      rw [hreports]
      exact s.reportSaturations_told _
  case turned =>
    exact ⟨⟨_, rfl, beatShared_iff layout lane.x lane.y⟩, s.reportSaturations_told _⟩

end Sys2Proof.Machine
end

section
/-! The read plan and assembly map of an aperture read piece (R57 to R60), and how returned data fills them (R62). -/

namespace Sys2Proof.Machine

/-! ### A lane to read (R57) -/

/-- R46, R47: what an IN-VIEW outcome says of its offset. -/
structure InView (layout : Option Layout) (o : Nat) (l : Layout) (v : View) (u row : Nat) : Prop where
  layout_eq : layout = some l
  view_mem : v ∈ l.views
  holds : v.holds o = true
  column : (o - v.base) % v.sv < v.wv * 4
  u_eq : u = (o - v.base) % v.sv / 4
  row_eq : row = (o - v.base) / v.sv

theorem exists_inView {layout : Option Layout} {o : Nat} {v : View} {u row : Nat} (h : outcomeOf layout o = .inView v u row) :
    ∃ l, InView layout o l v u row := by
  cases layout with
  | none => cases h
  | some l =>
    unfold outcomeOf at h
    dsimp only at h
    split at h
    · cases h
    · next w hfind =>
      split at h
      · cases h
      · next hcolumn =>
        obtain ⟨rfl, rfl, rfl⟩ := Outcome.inView.inj h
        exact ⟨l, rfl, List.mem_of_find?_eq_some hfind, List.find?_some (p := fun w : View => w.holds o) hfind,
          Nat.lt_of_not_le hcolumn, rfl, rfl⟩

namespace InView
variable {layout : Option Layout} {o : Nat} {l : Layout} {v : View} {u row : Nat}

theorem u_lt (h : InView layout o l v u row) : u < v.wv := by
  have := h.column
  rw [h.u_eq]
  omega

theorem row_lt (h : InView layout o l v u row) (hl : l.Sound) : row < v.hv := by
  rw [h.row_eq]
  exact View.row_lt (hl.placed v h.view_mem).2 h.holds

theorem covers (h : InView layout o l v u row) (hl : l.Sound) : v.panelRect.covers (v.panel u row).1 (v.panel u row).2 = true :=
  View.panelRect_covers_panel h.u_lt (h.row_lt hl)

theorem panel_lt (h : InView layout o l v u row) (hl : l.Sound) : (v.panel u row).1 < 2400 ∧ (v.panel u row).2 < 1800 :=
  Rect.lt_of_covers (View.panelRect_onPanel (hl.placed v h.view_mem).2) (h.covers hl)

/-- R47 read backwards: the offset by row, column and byte. -/
theorem offset_eq (h : InView layout o l v u row) : o = v.base + v.sv * row + 4 * u + (o - v.base) % v.sv % 4 := by
  have hbase := (View.holds_iff.1 h.holds).1
  have hrow := Nat.div_add_mod (o - v.base) v.sv
  have hu := Nat.div_add_mod ((o - v.base) % v.sv) 4
  rw [h.u_eq, h.row_eq]
  omega

/-- R48: lanes of one piece that meet at a panel position are one lane. -/
theorem offset_unique {o' : Nat} {v' : View} {u' row' : Nat} (h : InView layout o l v u row) (h' : InView layout o' l v' u' row')
    (hl : l.Sound) (halign : o % 4 = o' % 4) (hpanel : v'.panel u' row' = v.panel u row) : o' = o := by
  have hcovers := h'.covers hl
  rw [hpanel] at hcovers
  obtain rfl := hl.eq_of_covers h.view_mem h'.view_mem (h.covers hl) hcovers
  obtain ⟨rfl, rfl⟩ := View.panel_inj h.u_lt (h.row_lt hl) h'.u_lt (h'.row_lt hl) hpanel
  have ho := h.offset_eq
  have ho' := h'.offset_eq
  omega

end InView

/-- The lane to read at an IN-VIEW place. -/
def viewLane (base : Nat) (v : View) (u row : Nat) (enables : Quad Bool) : ReadLane :=
  { group := if v.turned then .beat (panelBeat base (v.panel u row).1 (v.panel u row).2) else .run v.number row,
    x := (v.panel u row).1, y := (v.panel u row).2, enables := enables }

theorem any_id_iff (enables : Quad Bool) : enables.any id = true ↔ enables ≠ Quad.replicate false := by
  obtain ⟨e0, e1, e2, e3⟩ := enables
  revert e0 e1 e2 e3
  decide

theorem readLane_of_clear {layout : Option Layout} {base o : Nat} {enables : Quad Bool}
    (h : enables = Quad.replicate false ∨ ∀ v u row, outcomeOf layout o ≠ .inView v u row) :
    readLane layout base o enables = none := by
  unfold readLane
  split
  · next hany =>
    obtain rfl | hout := h
    · cases hany
    · split
      · next v u row hin => exact absurd hin (hout v u row)
      · rfl
      · rfl
      · rfl
  · rfl

theorem readLane_of_inView {layout : Option Layout} {base o : Nat} {enables : Quad Bool} {v : View} {u row : Nat}
    (hany : enables ≠ Quad.replicate false) (hin : outcomeOf layout o = .inView v u row) :
    readLane layout base o enables = some (viewLane base v u row enables) := by
  rw [readLane, if_pos ((any_id_iff enables).2 hany), hin]
  exact rfl

theorem exists_of_readLane {layout : Option Layout} {base o : Nat} {enables : Quad Bool} {lane : ReadLane}
    (h : readLane layout base o enables = some lane) :
    ∃ v u row, outcomeOf layout o = .inView v u row ∧ lane = viewLane base v u row enables := by
  unfold readLane at h
  split at h
  · split at h
    · next v u row hin => exact ⟨v, u, row, hin, (Option.some.inj h).symm⟩
    · cases h
    · cases h
    · cases h
  · cases h

/-! ### The lanes of the piece -/

theorem readLanes_length (layout : Option Layout) (base o : Nat) (beats : List EnableBeat) :
    (readLanes layout base o beats).length = beats.length := by
  induction beats generalizing o with
  | nil => rfl
  | cons b rest ih => exact congrArg (· + 1) (ih (o + 16))

/-- The lane to read for upstream lane k of beat n. -/
theorem readLanes_getElem {layout : Option Layout} {base o : Nat} {beats : List EnableBeat} {n k : Nat} (hn : n < beats.length)
    (hk : k < 4) :
    ∃ q, (readLanes layout base o beats)[n]? = some q ∧ q.get k = readLane layout base (o + 16 * n + 4 * k) (beats[n].get k) := by
  induction beats generalizing o n with
  | nil => cases hn
  | cons b rest ih =>
    cases n with
    | zero =>
      refine ⟨_, rfl, ?_⟩
      match k, hk with
      | 0, _ => rfl
      | 1, _ => rfl
      | 2, _ => rfl
      | 3, _ => rfl
    | succ n =>
      obtain ⟨q, hq, hlane⟩ := ih (o := o + 16) (Nat.lt_of_succ_lt_succ hn)
      refine ⟨q, hq, ?_⟩
      rw [show o + 16 * (n + 1) = o + 16 + 16 * n by omega]
      exact hlane

theorem Quad.mem_filterMap {α : Type} {q : Quad (Option α)} {a : α} : a ∈ q.toList.filterMap id ↔ ∃ k < 4, q.get k = some a := by
  simp only [List.mem_filterMap, id, exists_eq_right, Quad.toList, List.mem_cons, List.not_mem_nil, or_false]
  constructor
  · rintro (h | h | h | h)
    · exact ⟨0, by decide, h.symm⟩
    · exact ⟨1, by decide, h.symm⟩
    · exact ⟨2, by decide, h.symm⟩
    · exact ⟨3, by decide, h.symm⟩
  · rintro ⟨k, hk, h⟩
    match k, hk with
    | 0, _ => exact .inl h.symm
    | 1, _ => exact .inr (.inl h.symm)
    | 2, _ => exact .inr (.inr (.inl h.symm))
    | 3, _ => exact .inr (.inr (.inr h.symm))

/-- The lanes a read piece reads, in ascending order. -/
def lanesRead (layout : Option Layout) (base o : Nat) (beats : List EnableBeat) : List ReadLane :=
  (readLanes layout base o beats).flatMap fun q => q.toList.filterMap id

theorem mem_lanesRead {layout : Option Layout} {base o : Nat} {beats : List EnableBeat} {lane : ReadLane} :
    lane ∈ lanesRead layout base o beats ↔
      ∃ n k, ∃ hn : n < beats.length, k < 4 ∧ readLane layout base (o + 16 * n + 4 * k) (beats[n].get k) = some lane := by
  rw [lanesRead, List.mem_flatMap]
  constructor
  · rintro ⟨q, hq, hlane⟩
    obtain ⟨n, hn, rfl⟩ := List.mem_iff_getElem.1 hq
    obtain ⟨k, hk, hget⟩ := Quad.mem_filterMap.1 hlane
    rw [readLanes_length] at hn
    obtain ⟨q, hq, hread⟩ := readLanes_getElem (layout := layout) (base := base) (o := o) hn hk
    rw [List.getElem?_eq_getElem (by rw [readLanes_length]; exact hn)] at hq
    exact ⟨n, k, hn, hk, by rw [← hread, ← Option.some.inj hq, hget]⟩
  · rintro ⟨n, k, hn, hk, hread⟩
    obtain ⟨q, hq, hget⟩ := readLanes_getElem (layout := layout) (base := base) (o := o) hn hk
    exact ⟨q, List.mem_of_getElem? hq, Quad.mem_filterMap.2 ⟨k, hk, hget.trans hread⟩⟩

/-- R58, R59: lanes of one group are lanes of one panel row. -/
theorem viewLane_row {layout : Option Layout} {base o o' : Nat} {l : Layout} {v v' : View} {u row u' row' : Nat} {e e' : Quad Bool}
    (hl : l.Sound) (h : InView layout o l v u row) (h' : InView layout o' l v' u' row')
    (hgroup : (viewLane base v u row e).group = (viewLane base v' u' row' e').group) : (v.panel u row).2 = (v'.panel u' row').2 := by
  have hx := (h.panel_lt hl).1
  have hx' := (h'.panel_lt hl).1
  unfold viewLane at hgroup
  dsimp only at hgroup
  split at hgroup
  · split at hgroup
    · have haddr := ReadGroup.beat.inj hgroup
      simp only [panelBeat, Config.rowPitch] at haddr
      omega
    · cases hgroup
  · next hturned =>
    split at hgroup
    · cases hgroup
    · obtain ⟨hnumber, rfl⟩ := ReadGroup.run.inj hgroup
      have hview : v = v' := by
        by_contra hne
        have : Std.Symm fun v w : View => v.number ≠ w.number := ⟨fun _ _ h => h.symm⟩
        exact (hl.order.imp fun hlt => Nat.ne_of_lt hlt).forall h.view_mem h'.view_mem hne hnumber
      subst hview
      rcases hrotation : v.rotation
      · simp only [View.panel, View.position_r0 hrotation]
      · exact absurd (by rw [View.turned, hrotation]) hturned
      · simp only [View.panel, View.position_r180 hrotation]
      · exact absurd (by rw [View.turned, hrotation]) hturned

/-! ### Groups (R60) -/

/-- The lanes of the group g. -/
def groupLanes (g : ReadGroup) : List (ReadGroup × List ReadLane) → List ReadLane
  | [] => []
  | (h, ls) :: rest => if h = g then ls else groupLanes g rest

theorem groupLanes_gather (g : ReadGroup) (lane : ReadLane) (groups : List (ReadGroup × List ReadLane)) :
    groupLanes g (gather lane groups) = groupLanes g groups ++ if lane.group = g then [lane] else [] := by
  induction groups with
  | nil => simp [gather, groupLanes]
  | cons p rest ih =>
    obtain ⟨h, ls⟩ := p
    by_cases hh : h = lane.group <;> by_cases hg : lane.group = g
    · simp [gather, groupLanes, hh, hg]
    · simp [gather, groupLanes, hh, hg]
    · subst hg
      simp [gather, groupLanes, hh, ih]
    · simp only [gather, if_neg hh, groupLanes, ih, if_neg hg, List.append_nil]

/-- R60: a group gathers exactly its own lanes, in their order. -/
theorem groupLanes_gatherAll (g : ReadGroup) (lanes : List ReadLane) (groups : List (ReadGroup × List ReadLane)) :
    groupLanes g (gatherAll lanes groups) = groupLanes g groups ++ lanes.filter fun lane => decide (lane.group = g) := by
  induction lanes generalizing groups with
  | nil => exact (List.append_nil _).symm
  | cons lane rest ih =>
    rw [gatherAll, ih, groupLanes_gather, List.append_assoc, List.filter_cons]
    by_cases h : lane.group = g
    · simp [h]
    · simp [h]

theorem groupLanes_readGroups (layout : Option Layout) (base o : Nat) (beats : List EnableBeat) (g : ReadGroup) :
    groupLanes g (readGroups (readLanes layout base o beats)) =
      (lanesRead layout base o beats).filter fun lane => decide (lane.group = g) := groupLanes_gatherAll g _ []

/-- The assembly map names the planned segment of the lane's group, and the lane's beat in it. -/
theorem sourceIn_eq {lane : ReadLane} (base n : Nat) {groups : List (ReadGroup × List ReadLane)} {ls : List ReadLane}
    (hls : groupLanes lane.group groups = ls) (h : lane ∈ ls) :
    ∃ i, (planFrom base n groups)[i]? = some (planSegment base (n + i) ls) ∧
      sourceIn lane n groups = .awaits (n + i) (lane.x / 4 - lowBeat (ls.map (·.x))) (lane.x % 4) lane.enables := by
  induction groups generalizing n with
  | nil =>
    subst hls
    cases h
  | cons p rest ih =>
    obtain ⟨g, ms⟩ := p
    by_cases hg : g = lane.group
    · rw [groupLanes, if_pos hg] at hls
      subst hls
      exact ⟨0, rfl, by rw [sourceIn, if_pos hg]; rfl⟩
    · rw [groupLanes, if_neg hg] at hls
      obtain ⟨i, hplan, hsource⟩ := ih (n + 1) hls
      have hi : n + 1 + i = n + (i + 1) := by omega
      exact ⟨i + 1, by rw [← hi]; exact hplan, by rw [sourceIn, if_neg hg, hsource, hi]⟩

/-! ### The planned segment of a group -/

/-- Lanes a planned segment can serve together: all of one panel row, and one lane at most at a column. -/
structure OneRow (ls : List ReadLane) : Prop where
  row : ∀ a ∈ ls, ∀ b ∈ ls, a.y = b.y
  column : ∀ a ∈ ls, ∀ b ∈ ls, a.x = b.x → a.enables = b.enables

theorem oneRow_group {layout : Option Layout} (hsound : ∀ l, layout = some l → l.Sound) (base o : Nat) (beats : List EnableBeat)
    (g : ReadGroup) : OneRow ((lanesRead layout base o beats).filter fun lane => decide (lane.group = g)) := by
  have hrow : ∀ a ∈ lanesRead layout base o beats, ∀ b ∈ lanesRead layout base o beats, a.group = b.group →
      a.y = b.y ∧ (a.x = b.x → a.enables = b.enables) := by
    intro a ha b hb hgroup
    obtain ⟨n, k, hn, hk, ha⟩ := mem_lanesRead.1 ha
    obtain ⟨n', k', hn', hk', hb⟩ := mem_lanesRead.1 hb
    obtain ⟨v, u, row, hin, rfl⟩ := exists_of_readLane ha
    obtain ⟨v', u', row', hin', rfl⟩ := exists_of_readLane hb
    obtain ⟨l, hview⟩ := exists_inView hin
    obtain ⟨l', hview'⟩ := exists_inView hin'
    obtain rfl : l = l' := Option.some.inj (hview.layout_eq.symm.trans hview'.layout_eq)
    have hl := hsound l hview.layout_eq
    have hy := viewLane_row hl hview hview' hgroup
    refine ⟨hy, fun hx => ?_⟩
    have hoffset := hview.offset_unique hview' hl (by omega) (Prod.ext hx.symm hy.symm)
    obtain rfl : n' = n := by omega
    obtain rfl : k' = k := by omega
    rfl
  have hgrouped : ∀ a ∈ (lanesRead layout base o beats).filter fun lane => decide (lane.group = g),
      ∀ b ∈ (lanesRead layout base o beats).filter fun lane => decide (lane.group = g),
        a.y = b.y ∧ (a.x = b.x → a.enables = b.enables) := by
    intro a ha b hb
    obtain ⟨ha, hag⟩ := List.mem_filter.1 ha
    obtain ⟨hb, hbg⟩ := List.mem_filter.1 hb
    exact hrow a ha b hb ((of_decide_eq_true hag).trans (of_decide_eq_true hbg).symm)
  exact ⟨fun a ha b hb => (hgrouped a ha b hb).1, fun a ha b hb => (hgrouped a ha b hb).2⟩

/-- R58, R59: the planned segment covers the lane and asks for its enables there. -/
theorem planSegment_serves {ls : List ReadLane} (hone : OneRow ls) {lane : ReadLane} (h : lane ∈ ls) (base index : Nat) :
    lane.x / 4 - lowBeat (ls.map (·.x)) < (planSegment base index ls).beats.length ∧
      (planSegment base index ls).addr + 16 * (lane.x / 4 - lowBeat (ls.map (·.x))) = panelBeat base lane.x lane.y ∧
      ∀ d, ((planSegment base index ls).beats.getD (lane.x / 4 - lowBeat (ls.map (·.x))) d).get (lane.x % 4) = lane.enables := by
  have hspan := rowBeats_span noEnables (lanes := ls.map fun p => (p.x, p.enables)) (by
    intro heq
    rw [List.map_eq_nil_iff.1 heq] at h
    cases h)
  rw [List.map_map] at hspan
  have hmem : (lane.x, lane.enables) ∈ ls.map fun p => (p.x, p.enables) := List.mem_map_of_mem (f := fun p => (p.x, p.enables)) h
  obtain ⟨hlow, hhigh⟩ := hspan.within _ hmem
  change lowBeat (ls.map (·.x)) ≤ lane.x / 4 at hlow
  change lane.x / 4 < lowBeat (ls.map (·.x)) + (planSegment base index ls).beats.length at hhigh
  refine ⟨by omega, ?_, hspan.get_of_mem hmem fun q hq hx => ?_⟩
  · cases ls with
    | nil => cases h
    | cons p rest =>
      simp only [planSegment, panelBeat, hone.row lane h p List.mem_cons_self] at hlow ⊢
      omega
  · obtain ⟨r, hr, rfl⟩ := List.mem_map.1 hq
    exact hone.column r hr lane h hx

/-! ### The assembly map -/

theorem readPlan_eq (layout : Option Layout) (base o : Nat) (beats : List EnableBeat) :
    readPlan layout base o beats =
      (planFrom base 0 (readGroups (readLanes layout base o beats)),
        (readLanes layout base o beats).map fun q => q.map (laneSource (readGroups (readLanes layout base o beats)))) := rfl

theorem Quad.get_map {α β : Type} (f : α → β) (q : Quad α) (k : Nat) : (q.map f).get k = f (q.get k) := by
  match k with
  | 0 => rfl
  | 1 => rfl
  | 2 => rfl
  | _ + 3 => rfl

/-- The assembly map's word on upstream lane k of beat n. -/
theorem readPlan_lane {layout : Option Layout} {base o : Nat} {beats : List EnableBeat} {n k : Nat} (hn : n < beats.length) (hk : k < 4)
    (d : Quad LaneSource) :
    ((readPlan layout base o beats).2.getD n d).get k =
      laneSource (readGroups (readLanes layout base o beats)) (readLane layout base (o + 16 * n + 4 * k) (beats[n].get k)) := by
  obtain ⟨q, hq, hlane⟩ := readLanes_getElem (layout := layout) (base := base) (o := o) hn hk
  rw [readPlan_eq, List.getD_eq_getElem?_getD, List.getElem?_map, hq, ← hlane]
  exact Quad.get_map _ q k

theorem LaneSource.fill_awaits_same (segment beat lane : Nat) (enables : Quad Bool) (data : DataBeat) :
    (LaneSource.awaits segment beat lane enables).fill segment beat data = .filled (maskedBytes enables (data.get lane)) :=
  if_pos ⟨rfl, rfl⟩

theorem LaneSource.fill_awaits_other {segment beat segment' beat' : Nat} (h : ¬(segment = segment' ∧ beat = beat')) (lane : Nat)
    (enables : Quad Bool) (data : DataBeat) :
    (LaneSource.awaits segment beat lane enables).fill segment' beat' data = .awaits segment beat lane enables := if_neg h

/-- Settles O60: an IN-VIEW lane is in the group gathered for it, whose lanes lie in one panel row with one lane at a column, so that the
planned segment's beats hold its enables. -/
theorem readPlanServesEveryLane : Obligations.ReadPlanServesEveryLane := by
  refine ⟨fun layout base o beats hsound => ⟨?length, fun n k hn hk => ?lane⟩, ?fill⟩
  case length => rw [readPlan_eq, List.length_map, readLanes_length]
  case lane =>
    intro lane enables
    have hlane : lane = laneSource (readGroups (readLanes layout base o beats))
        (readLane layout base (o + 16 * n + 4 * k) (beats[n].get k)) := readPlan_lane hn hk _
    have henables : enables = beats[n].get k := congrArg (fun q : EnableBeat => q.get k) (List.getD_eq_getElem _ _ hn)
    rw [hlane, henables]
    refine ⟨fun hclear => congrArg (laneSource _) (readLane_of_clear hclear), fun v u row hany hin => ?_⟩
    have hread := readLane_of_inView (base := base) hany hin
    rw [hread]
    obtain ⟨ls, hls⟩ : ∃ ls, (lanesRead layout base o beats).filter
      (fun lane => decide (lane.group = (viewLane base v u row (beats[n].get k)).group)) = ls := ⟨_, rfl⟩
    have hmem : viewLane base v u row (beats[n].get k) ∈ ls :=
      hls ▸ List.mem_filter.2 ⟨mem_lanesRead.2 ⟨n, k, hn, hk, hread⟩, decide_eq_true rfl⟩
    have hone : OneRow ls := hls ▸ oneRow_group hsound base o beats _
    obtain ⟨i, hplan, hsource⟩ := sourceIn_eq base 0 ((groupLanes_readGroups layout base o beats _).trans hls) hmem
    rw [Nat.zero_add] at hplan hsource
    obtain ⟨hbeat, haddr, hask⟩ := planSegment_serves hone hmem base i
    exact ⟨planSegment base i ls, _, hplan, hbeat, hsource, haddr, hask _⟩
  case fill =>
    intro segment beat lane enables data
    exact ⟨LaneSource.fill_awaits_same segment beat lane enables data,
      fun segment' beat' hne => LaneSource.fill_awaits_other hne lane enables data⟩

end Sys2Proof.Machine
end

section
/-! The router at work (R6 to R11, R43 to R52): the pieces of a request one after another, and the answers of a read piece. -/

namespace Sys2Proof.Machine

/-! ### Assembled beats in the response list (R62) -/

/-- The beat an assembly map has for place j of an entry, if the piece from place first on has one complete there. -/
def assembledAt (first : Nat) (assembly : List (Quad LaneSource)) (j : Nat) : Option DataBeat :=
  if first ≤ j then assembly[j - first]?.bind assembledBeat else none

/-- An entry's beats with those of the assembly map marked complete. -/
def assembledOver (first : Nat) (assembly : List (Quad LaneSource)) (beats : List (Option DataBeat)) : List (Option DataBeat) :=
  beats.mapIdx fun j b =>
    match assembledAt first assembly j with
    | some data => some data
    | none => b

theorem getElem?_assembledOver (first : Nat) (assembly : List (Quad LaneSource)) (beats : List (Option DataBeat)) (j : Nat) :
    (assembledOver first assembly beats)[j]? =
      if (assembledAt first assembly j).isSome then beats[j]?.map fun _ => assembledAt first assembly j else beats[j]? := by
  rw [assembledOver, List.getElem?_mapIdx]
  cases assembledAt first assembly j with
  | none => cases beats[j]? <;> rfl
  | some data => cases beats[j]? <;> rfl

theorem assembledOver_nil (first : Nat) (beats : List (Option DataBeat)) : assembledOver first [] beats = beats := by
  refine List.ext_getElem? fun j => ?_
  rw [getElem?_assembledOver, show assembledAt first [] j = none by simp [assembledAt]]
  exact if_neg Bool.false_ne_true

theorem assembledAt_cons (first : Nat) (q : Quad LaneSource) (rest : List (Quad LaneSource)) (j : Nat) :
    assembledAt first (q :: rest) j = if j = first then assembledBeat q else assembledAt (first + 1) rest j := by
  unfold assembledAt
  obtain hlt | rfl | hgt := Nat.lt_trichotomy j first
  · rw [if_neg (by omega), if_neg (by omega), if_neg (by omega)]
  · simp
  · rw [if_pos (by omega), if_neg (by omega), if_pos (by omega), show j - first = (j - (first + 1)) + 1 by omega,
      List.getElem?_cons_succ]

theorem assembledOver_cons_none {q : Quad LaneSource} (h : assembledBeat q = none) (first : Nat) (rest : List (Quad LaneSource))
    (beats : List (Option DataBeat)) : assembledOver (first + 1) rest beats = assembledOver first (q :: rest) beats := by
  refine List.ext_getElem? fun j => ?_
  rw [getElem?_assembledOver, getElem?_assembledOver, assembledAt_cons]
  by_cases hj : j = first
  · subst hj
    rw [if_pos rfl, h, show assembledAt (j + 1) rest j = none from if_neg (by omega)]
  · rw [if_neg hj]

theorem assembledOver_cons_some {q : Quad LaneSource} {data : DataBeat} (h : assembledBeat q = some data) (first : Nat)
    (rest : List (Quad LaneSource)) (beats : List (Option DataBeat)) :
    assembledOver (first + 1) rest (beats.set first (some data)) = assembledOver first (q :: rest) beats := by
  refine List.ext_getElem? fun j => ?_
  rw [getElem?_assembledOver, getElem?_assembledOver, assembledAt_cons, List.getElem?_set]
  by_cases hj : j = first
  · subst hj
    rw [if_pos rfl, h, show assembledAt (j + 1) rest j = none from if_neg (by omega)]
    by_cases hlt : j < beats.length <;> simp [hlt]
  · rw [if_neg hj, if_neg (Ne.symm hj)]

theorem State.setAssembled_eq (s : State) (id first : Nat) (assembly : List (Quad LaneSource)) :
    s.setAssembled id first assembly =
      { s with
        responses := s.responses.map fun e => if e.id = id then { e with beats := assembledOver first assembly e.beats } else e } := by
  induction assembly generalizing s first with
  | nil => simp [State.setAssembled, assembledOver_nil]
  | cons q rest ih =>
    unfold State.setAssembled
    split
    · next data hdata =>
      rw [ih]
      simp only [State.setBeat, List.map_map]
      congr 2
      funext e
      by_cases he : e.id = id
      · simp [he, assembledOver_cons_some hdata]
      · simp [he]
    · next hnone =>
      rw [ih]
      simp only [assembledOver_cons_none hnone]

@[simp] theorem State.setAssembled_collector (s : State) (id first : Nat) (assembly : List (Quad LaneSource)) :
    (s.setAssembled id first assembly).collector = s.collector := by rw [State.setAssembled_eq]

@[simp] theorem State.setAssembled_router (s : State) (id first : Nat) (assembly : List (Quad LaneSource)) :
    (s.setAssembled id first assembly).router = s.router := by rw [State.setAssembled_eq]

@[simp] theorem State.sendUpstream_collector (s : State) : s.sendUpstream.collector = s.collector := rfl

@[simp] theorem State.sendUpstream_router (s : State) : s.sendUpstream.router = s.router := rfl

/-! ### A piece goes to the translator (R43) -/

section TranslatePiece
variable {s : State} {plane : Plane} {p : Piece} {response : Option Nat}

theorem State.translatePiece_write {beats : List MaskedBeat} (h : p.payload = .write beats) :
    s.translatePiece plane p response =
      s.takeInHand plane (s.boundLayout plane) (laneSteps (s.boundLayout plane) (lanesFrom (p.addr - planeBase s.fb plane) beats)) := by
  rw [State.translatePiece, h]
  exact rfl

/-- The state in which a read piece's lanes without data are answered (R57). -/
def State.blanksAnswered (s : State) (plane : Plane) (p : Piece) (id : Nat) (beats : List EnableBeat) : State :=
  State.sendUpstream
    (s.setAssembled id p.first (readPlan (s.boundLayout plane) (planeBase s.fb plane) (p.addr - planeBase s.fb plane) beats).2)

/-- The read job of a piece. -/
def State.readJob (s : State) (plane : Plane) (p : Piece) (id : Nat) (beats : List EnableBeat) : ReadJob :=
  { plane := plane, layout := s.boundLayout plane, response := id, first := p.first,
    plan := (readPlan (s.boundLayout plane) (planeBase s.fb plane) (p.addr - planeBase s.fb plane) beats).1
    assembly := (readPlan (s.boundLayout plane) (planeBase s.fb plane) (p.addr - planeBase s.fb plane) beats).2 }

variable {beats : List EnableBeat} {id : Nat} (h : p.payload = .read beats) (hid : response = some id)
include h hid

theorem State.translatePiece_read :
    s.translatePiece plane p response =
      if (s.readJob plane p id beats).plan = [] then { s.blanksAnswered plane p id beats with translator := .idle }
      else (s.blanksAnswered plane p id beats).enquire (s.readJob plane p id beats) := by
  subst hid
  rw [State.translatePiece, h]
  dsimp only
  split
  · next hplan => rw [if_pos (show (s.readJob plane p id beats).plan = [] from hplan)]; exact rfl
  · next q rest hplan =>
    have hplan : (s.readJob plane p id beats).plan = q :: rest := hplan
    rw [if_neg (by rw [hplan]; exact List.cons_ne_nil q rest)]
    exact rfl

theorem State.translatePiece_read_empty (hplan : (s.readJob plane p id beats).plan = []) :
    s.translatePiece plane p response = { s.blanksAnswered plane p id beats with translator := .idle } := by
  rw [State.translatePiece_read h hid, if_pos hplan]

theorem State.translatePiece_read_clear {q : PlanSegment} {rest : List PlanSegment} (hplan : (s.readJob plane p id beats).plan = q :: rest)
    (hheld : s.collector.heldFor (q.keys plane) = []) :
    s.translatePiece plane p response =
      { s.blanksAnswered plane p id beats with translator := .readIssue (s.readJob plane p id beats) } := by
  rw [State.translatePiece_read h hid, if_neg (by rw [hplan]; exact List.cons_ne_nil q rest)]
  exact State.enquire_of_clear hplan (by rw [State.blanksAnswered, State.sendUpstream_collector, State.setAssembled_collector]; exact hheld)

theorem State.translatePiece_read_held {q : PlanSegment} {rest : List PlanSegment} (hplan : (s.readJob plane p id beats).plan = q :: rest)
    (hheld : s.collector.heldFor (q.keys plane) ≠ []) :
    s.translatePiece plane p response =
      { s.blanksAnswered plane p id beats with
        collector := s.collector.requestPriority (q.keys plane)
        translator := .readHeld (s.readJob plane p id beats) (s.collector.heldFor (q.keys plane)) } := by
  have hcollector : (s.blanksAnswered plane p id beats).collector = s.collector := by
    rw [State.blanksAnswered, State.sendUpstream_collector, State.setAssembled_collector]
  rw [State.translatePiece_read h hid, if_neg (by rw [hplan]; exact List.cons_ne_nil q rest), ← hcollector]
  exact State.enquire_of_held hplan (by rw [hcollector]; exact hheld)

end TranslatePiece

/-! ### The router while a piece is in translation -/

/-- Lanes come in hand: the status writer, the order of the control offers and the translator change. -/
theorem State.takeInHand_eq (s : State) (plane : Plane) (layout : Option Layout) (steps : List LaneStep) :
    ∃ st b x, s.takeInHand plane layout steps = { s with status := st, fetchFirst := b, translator := x } := by
  induction steps generalizing s with
  | nil => exact ⟨_, _, _, rfl⟩
  | cons step rest ih =>
    cases step with
    | orphan =>
      obtain ⟨fl, w, b, hreport⟩ := State.report_eq (s.count .orphan 1) .orphan
      obtain ⟨st, b', x, hrest⟩ := ih s.dropOrphan
      exact ⟨st, b', x, hrest.trans (by rw [State.dropOrphan, hreport]; rfl)⟩
    | padding =>
      obtain ⟨st, b, x, hrest⟩ := ih s.dropPadding
      exact ⟨st, b, x, hrest⟩
    | run v row lanes =>
      obtain ⟨st, b, -, hreports⟩ := s.reportSaturations_eq (runReports (s.boundSpine plane) lanes)
      exact ⟨st, b, _, by rw [State.takeInHand_run, hreports]⟩
    | turned lane =>
      obtain ⟨st, b, -, hreports⟩ := s.reportSaturations_eq (laneReports (s.boundSpine plane) lane.x lane.bytes)
      exact ⟨st, b, _, by rw [State.takeInHand_turned, hreports]⟩

theorem State.takeInHand_router (s : State) (plane : Plane) (layout : Option Layout) (steps : List LaneStep) :
    (s.takeInHand plane layout steps).router = s.router := by
  obtain ⟨st, b, x, h⟩ := s.takeInHand_eq plane layout steps
  rw [h]

theorem State.enquire_eq (s : State) (job : ReadJob) : ∃ c x, s.enquire job = { s with collector := c, translator := x } := by
  unfold State.enquire
  split
  · exact ⟨_, _, rfl⟩
  · dsimp only
    split <;> exact ⟨_, _, rfl⟩

theorem State.translatePiece_router (s : State) (plane : Plane) (p : Piece) (response : Option Nat) :
    (s.translatePiece plane p response).router = s.router := by
  unfold State.translatePiece
  dsimp only
  split
  · exact s.takeInHand_router _ _ _
  · split
    · exact s.setAssembled_router _ _ _
    · obtain ⟨c, x, h⟩ := State.enquire_eq _ _
      exact (congrArg State.router h).trans (s.setAssembled_router _ _ _)

/-! ### The router goes on (R6) -/

/-- The router has the pieces in hand. -/
def State.holding (s : State) (hold : RouterHold) (ps : List Piece) : State := { s with router := some { hold with pieces := ps } }

theorem State.workOn_nil (s : State) (hold : RouterHold) : s.workOn hold [] = { s with router := none } := rfl

/-- A pass piece waits to be placed. -/
theorem State.workOn_pass (s : State) (hold : RouterHold) {p : Piece} (h : ∀ q, p.region ≠ .aperture q) (rest : List Piece) :
    s.workOn hold (p :: rest) = s.holding hold (p :: rest) := by
  rw [State.workOn]
  dsimp only
  split
  · next plane hplane => exact absurd hplane (h plane)
  all_goals rfl

/-- The work goes by the request and its entry; the pieces left are given apart. -/
theorem State.workOn_holding (s : State) (hold : RouterHold) (held ps : List Piece) :
    s.workOn { hold with pieces := held } ps = s.workOn hold ps := by
  induction ps generalizing s with
  | nil => rfl
  | cons p rest ih =>
    unfold State.workOn
    dsimp only
    split
    · split
      · exact ih _
      · rfl
    all_goals rfl

/-- An aperture piece goes to the translator, and is handed on at once if nothing of it has to wait. -/
theorem State.workOn_aperture (s : State) (hold : RouterHold) {p : Piece} {plane : Plane} (h : p.region = .aperture plane)
    (rest : List Piece) :
    s.workOn hold (p :: rest) = ((s.holding hold (p :: rest)).translatePiece plane p hold.response).handedOnIfIdle := by
  have hhanded : ((s.holding hold (p :: rest)).translatePiece plane p hold.response).pieceHandedOn =
      ((s.holding hold (p :: rest)).translatePiece plane p hold.response).workOn hold rest := by
    rw [State.pieceHandedOn, State.translatePiece_router]
    exact State.workOn_holding _ hold (p :: rest) rest
  rw [State.workOn, State.handedOnIfIdle, hhanded]
  simp only [h]
  exact rfl

theorem State.pieceHandedOn_of_router {s : State} {hold : RouterHold} (h : s.router = some hold) :
    s.pieceHandedOn = s.workOn hold hold.pieces.tail := by rw [State.pieceHandedOn, h]

/-! ### Lanes in ascending order (R44, R45, R51) -/

theorem lanesFrom_length {α : Type} (o : Nat) (beats : List (Quad α)) : (lanesFrom o beats).length = 4 * beats.length := by
  induction beats generalizing o with
  | nil => rfl
  | cons b rest ih =>
    simp only [lanesFrom, List.length_cons, ih]
    omega

/-- The place and the bytes of lane k of beat n. -/
theorem getElem?_lanesFrom {α : Type} (o : Nat) (beats : List (Quad α)) {n k : Nat} (hn : n < beats.length) (hk : k < 4) (d : Quad α) :
    (lanesFrom o beats)[4 * n + k]? = some (o + 16 * n + 4 * k, (beats.getD n d).get k) := by
  induction beats generalizing o n with
  | nil => cases hn
  | cons b rest ih =>
    cases n with
    | zero =>
      match k, hk with
      | 0, _ => rfl
      | 1, _ => rfl
      | 2, _ => rfl
      | 3, _ => rfl
    | succ n =>
      rw [show 4 * (n + 1) + k = (4 * n + k) + 4 by omega, show o + 16 * (n + 1) + 4 * k = o + 16 + 16 * n + 4 * k by omega]
      exact ih (o + 16) (Nat.lt_of_succ_lt_succ hn)

theorem map_snd_lanesFrom {α : Type} (o : Nat) (beats : List (Quad α)) :
    (lanesFrom o beats).map Prod.snd = beats.flatMap Quad.toList := by
  induction beats generalizing o with
  | nil => rfl
  | cons b rest ih =>
    simp only [lanesFrom, List.map_cons, ih, List.flatMap_cons, Quad.toList]
    rfl

section ConsStep
variable {layout : Option Layout} {o : Nat} {bytes : MaskedLane}

/-- The lane as it is placed on the panel. -/
def View.placed (v : View) (u row : Nat) (bytes : MaskedLane) : PlacedLane :=
  { x := (v.panel u row).1, y := (v.panel u row).2, bytes := bytes }

theorem consStep_of_clear (h : laneFilled bytes = false) (steps : List LaneStep) : consStep layout (o, bytes) steps = steps :=
  if_neg (Bool.eq_false_iff.1 h)

variable (h : laneFilled bytes = true) (steps : List LaneStep)
include h

theorem consStep_of_orphan (hout : outcomeOf layout o = .noLayout ∨ outcomeOf layout o = .outside) :
    consStep layout (o, bytes) steps = .orphan :: steps := by
  rw [consStep, if_pos (show bytes.any Option.isSome = true from h)]
  obtain hout | hout := hout <;>
  · simp only [hout]

theorem consStep_of_padding (hout : outcomeOf layout o = .padding) : consStep layout (o, bytes) steps = .padding :: steps := by
  rw [consStep, if_pos (show bytes.any Option.isSome = true from h)]
  simp only [hout]

variable {v : View} {u row : Nat} (hout : outcomeOf layout o = .inView v u row)
include hout

theorem consStep_of_turned (hturned : v.turned = true) : consStep layout (o, bytes) steps = .turned (v.placed u row bytes) :: steps := by
  rw [consStep, if_pos (show bytes.any Option.isSome = true from h)]
  simp only [hout, hturned, if_true]
  exact rfl

/-- R51: a lane joins the run of its view and row that follows it. -/
theorem consStep_of_joined (hturned : v.turned = false) {lanes : List PlacedLane} {more : List LaneStep}
    (hsteps : steps = .run v.number row lanes :: more) :
    consStep layout (o, bytes) steps = .run v.number row (v.placed u row bytes :: lanes) :: more := by
  subst hsteps
  rw [consStep, if_pos (show bytes.any Option.isSome = true from h)]
  simp only [hout, hturned, and_self, if_true]
  exact rfl

theorem consStep_of_new (hturned : v.turned = false) (hsteps : ∀ lanes more, steps ≠ .run v.number row lanes :: more) :
    consStep layout (o, bytes) steps = .run v.number row [v.placed u row bytes] :: steps := by
  rw [consStep, if_pos (show bytes.any Option.isSome = true from h)]
  simp only [hout, hturned]
  rw [if_neg Bool.false_ne_true]
  split
  · next n r lanes more =>
    refine if_neg ?_
    rintro ⟨rfl, rfl⟩
    exact hsteps lanes more rfl
  · rfl

end ConsStep

theorem View.turned_iff (v : View) : v.turned = true ↔ v.rotation = .r90 ∨ v.rotation = .r270 := by
  unfold View.turned
  split <;> simp [*]

/-! ### The lanes of an unbound plane (R50) -/

/-- n lanes have been dropped as orphans, and none has come in hand. -/
structure Dropped (n : Nat) (s t : State) : Prop where
  aside : t.aside = s.aside
  router : t.router = s.router
  kept : t.kept = s.kept
  none : n = 0 → t.status.counters.orphan = s.status.counters.orphan
  counted : 0 < n → t.status.counters.orphan = min 65535 (s.status.counters.orphan + n) ∧ t.flag .orphan = true

theorem Dropped.refl (s : State) : Dropped 0 s s := ⟨rfl, rfl, rfl, fun _ => rfl, fun h => absurd h (Nat.lt_irrefl 0)⟩

theorem State.dropOrphan_dropped (s : State) : Dropped 1 s s.dropOrphan := by
  refine ⟨State.report_aside _ _, congrArg Beside.router (State.report_beside _ _), State.report_kept _ _,
    fun h => absurd h Nat.one_ne_zero, fun _ => ⟨?_, ?_⟩⟩
  · rw [State.dropOrphan, State.report_counters]
    rfl
  · rw [State.dropOrphan, State.report_flag]
    rfl

theorem Dropped.then {n m : Nat} {s t u : State} (h : Dropped n s t) (k : Dropped m t u) (hflags : FlagsStay t u) :
    Dropped (n + m) s u := by
  refine ⟨k.aside.trans h.aside, k.router.trans h.router, k.kept.trans h.kept, fun hzero => ?_, fun hpos => ?_⟩
  · obtain ⟨rfl, rfl⟩ := Nat.add_eq_zero_iff.1 hzero
    exact (k.none rfl).trans (h.none rfl)
  · obtain rfl | hn := Nat.eq_zero_or_pos n
    · rw [Nat.zero_add] at hpos ⊢
      rw [← h.none rfl]
      exact k.counted hpos
    · obtain ⟨hcount, hflag⟩ := h.counted hn
      obtain rfl | hm := Nat.eq_zero_or_pos m
      · exact ⟨(k.none rfl).trans hcount, hflags _ hflag⟩
      · obtain ⟨hcount', hflag'⟩ := k.counted hm
        exact ⟨by rw [hcount', hcount]; omega, hflag'⟩

/-- R50: with no layout every lane with an enabled byte is dropped. -/
theorem State.takeInHand_unbound (s : State) (plane : Plane) (lanes : List (Nat × MaskedLane)) :
    Dropped ((lanes.map Prod.snd).filter laneFilled).length s (s.takeInHand plane none (laneSteps none lanes)) ∧
      (s.takeInHand plane none (laneSteps none lanes)).translator = .idle := by
  induction lanes generalizing s with
  | nil => exact ⟨⟨rfl, rfl, rfl, fun _ => rfl, fun h => absurd h (Nat.lt_irrefl 0)⟩, rfl⟩
  | cons lane rest ih =>
    obtain ⟨o, bytes⟩ := lane
    change Dropped _ s (s.takeInHand plane none (consStep none (o, bytes) (laneSteps none rest))) ∧ _
    rw [show laneSteps none ((o, bytes) :: rest) = consStep none (o, bytes) (laneSteps none rest) from rfl]
    cases hfilled : laneFilled bytes with
    | false =>
      rw [consStep_of_clear hfilled, List.map_cons, List.filter_cons_of_neg (by simp [hfilled])]
      exact ih s
    | true =>
      rw [consStep_of_orphan hfilled _ (.inl rfl), List.map_cons, List.filter_cons_of_pos hfilled, List.length_cons, Nat.add_comm]
      obtain ⟨hrest, hidle⟩ := ih s.dropOrphan
      exact ⟨s.dropOrphan_dropped.then hrest (State.takeInHand_flagsStay _ _ _ _), hidle⟩

end Sys2Proof.Machine
end

section
/-! The router's rows: the head of the inbound queue is taken, and a pass piece is placed (R6 to R11, R43, R50). -/

namespace Sys2Proof.Machine

/-! ### The end of a step with the translator idle -/

theorem State.choicePoint_outQueue_le (s : State) : s.choicePoint.outQueue.length ≤ s.outQueue.length := by
  cases hport : s.port with
  | some f => rw [State.choicePoint_of_port_isSome (by rw [hport]; rfl)]
  | none =>
    rw [State.choicePoint_of_port_none hport]
    cases s.pick s.stands with
    | none => exact Nat.le_refl _
    | some x =>
      cases x with
      | path =>
        change s.grantPath.outQueue.length ≤ _
        unfold State.grantPath
        split
        · exact Nat.le_refl _
        · next hqueue =>
          rw [hqueue]
          exact Nat.le_succ _
      | fetch =>
        change s.grantFetch.outQueue.length ≤ _
        unfold State.grantFetch
        split <;> exact Nat.le_refl _
      | record => exact Nat.le_refl _
      | priority =>
        change s.grantPriority.outQueue.length ≤ _
        unfold State.grantPriority
        split <;> exact Nat.le_refl _
      | ordinary =>
        change s.grantOrdinary.outQueue.length ≤ _
        unfold State.grantOrdinary
        split <;> exact Nat.le_refl _
      | fill =>
        change s.grantFill.outQueue.length ≤ _
        unfold State.grantFill
        split <;> exact Nat.le_refl _

/-- With the translator idle the end of the step is that of the swaps and one choice. -/
theorem State.conclude_of_idle {s : State} (h : s.translator = .idle) : s.conclude = (State.settleSwaps 2 s).choicePoint := by
  have hwaits : (State.settleSwaps 2 s).waitingInsert = none := by
    rw [State.waitingInsert, show (State.settleSwaps 2 s).translator = s.translator from
      congrArg Beside.translator (State.settleSwaps_steps 2 s).beside, h]
  rw [State.conclude, State.retryInsert_of_waitingInsert_none hwaits,
    State.retryInsert_of_waitingInsert_none (by rwa [State.choicePoint_waitingInsert])]

section Idle
variable {s : State} (h : s.translator = .idle)
include h

theorem State.conclude_idle_translator : s.conclude.translator = .idle := by
  rw [State.conclude_of_idle h]
  exact ((congrArg OffGrant.translator (State.choicePoint_offGrant _)).trans
    (congrArg Beside.translator (State.settleSwaps_steps 2 s).beside)).trans h

theorem State.conclude_idle_router : s.conclude.router = s.router := by
  rw [State.conclude_of_idle h]
  exact (congrArg OffGrant.router (State.choicePoint_offGrant _)).trans (congrArg Beside.router (State.settleSwaps_steps 2 s).beside)

theorem State.conclude_idle_counters : s.conclude.status.counters = s.status.counters := by
  rw [State.conclude_of_idle h]
  exact (State.choicePoint_counters _).trans (congrArg Beside.counters (State.settleSwaps_steps 2 s).beside)

theorem State.conclude_idle_outQueue_le : s.conclude.outQueue.length ≤ s.outQueue.length := by
  rw [State.conclude_of_idle h]
  exact (State.choicePoint_outQueue_le _).trans
    (Nat.le_of_eq (congrArg List.length (congrArg Beside.outQueue (State.settleSwaps_steps 2 s).beside)))

end Idle

/-! ### The head of the inbound queue (R6, R11) -/

/-- The taken request in hand, its entry of the response list made. -/
def State.taken (s : State) (r : Request) (rest : List Request) (ps : List Piece) : State :=
  if r.payload.isWrite then { s with inbound := rest, router := some { request := r, pieces := ps, response := none } }
  else
    { s with
      inbound := rest
      router := some { request := r, pieces := ps, response := some s.nextId }
      responses := s.responses ++ [{ id := s.nextId, beats := List.replicate r.payload.length none, sent := 0 }]
      nextId := s.nextId + 1 }

theorem State.taken_of_write (s : State) {r : Request} (rest : List Request) (ps : List Piece) (h : r.payload.isWrite = true) :
    s.taken r rest ps = { s with inbound := rest, router := some { request := r, pieces := ps, response := none } } := if_pos h

theorem State.taken_of_read (s : State) {r : Request} (rest : List Request) (ps : List Piece) (h : r.payload.isWrite = false) :
    s.taken r rest ps =
      { s with
        inbound := rest
        router := some { request := r, pieces := ps, response := some s.nextId }
        responses := s.responses ++ [{ id := s.nextId, beats := List.replicate r.payload.length none, sent := 0 }]
        nextId := s.nextId + 1 } := if_neg (Bool.eq_false_iff.1 h)

/-- The response entry of a taken request. -/
def State.entryOf (s : State) (r : Request) : Option Nat := if r.payload.isWrite then none else some s.nextId

section RouterTake
variable {s : State} {r : Request} {rest : List Request} {p : Piece} {ps : List Piece}

theorem act_routerTake (hrouter : s.router = none) (hinbound : s.inbound = r :: rest)
    (hlink : s.front.link = .awake ∨ s.front.link = .sleepDrain) :
    act .routerTake s = .concluded ({ s with inbound := rest }.takeRequest r) := by
  simp only [act, actRouterTake, hinbound, hrouter, (LinkState.active_iff _).2 hlink, if_true]

theorem State.takeRequest_pass (hpieces : piecesOf s.fb r = p :: ps) (hpass : ∀ q, p.region ≠ .aperture q) :
    { s with inbound := rest }.takeRequest r = s.taken r rest (p :: ps) := by
  have hpieces : piecesOf ({ s with inbound := rest }).fb r = p :: ps := hpieces
  unfold State.takeRequest
  rw [hpieces]
  cases hpayload : r.payload with
  | write beats => simp only [State.openResponse, hpayload, State.workOn_pass _ _ hpass, State.taken]; exact rfl
  | read beats => simp only [State.openResponse, hpayload, State.workOn_pass _ _ hpass, State.taken]; exact rfl

theorem State.takeRequest_aperture (hpieces : piecesOf s.fb r = p :: ps) {plane : Plane} (hplane : p.region = .aperture plane) :
    { s with inbound := rest }.takeRequest r = ((s.taken r rest (p :: ps)).translatePiece plane p (s.entryOf r)).handedOnIfIdle := by
  have hpieces : piecesOf ({ s with inbound := rest }).fb r = p :: ps := hpieces
  unfold State.takeRequest
  rw [hpieces]
  cases hpayload : r.payload with
  | write beats =>
    simp only [State.openResponse, hpayload, State.workOn_aperture _ _ hplane, State.taken, State.entryOf, Payload.isWrite, if_true]
    exact rfl
  | read beats =>
    simp only [State.openResponse, hpayload, State.workOn_aperture _ _ hplane, State.taken, State.entryOf, Payload.isWrite,
      Payload.length]
    exact rfl

end RouterTake

/-- The one piece of a request has its payload. -/
theorem payload_of_one_piece {fb : Nat} {r : Request} {p : Piece} (h : piecesOf fb r = [p]) : p.payload = r.payload := by
  obtain hwhole | hcut := Nat.lt_or_ge (beatsInRegion fb r.addr r.payload.length) r.payload.length |>.symm
  · rw [piecesOf_of_whole hwhole] at h
    exact (List.singleton_inj.1 h) ▸ rfl
  · rw [piecesOf_of_cut rfl hcut] at h
    cases h

theorem State.handedOnIfIdle_of_idle {s : State} (h : s.translator = .idle) : s.handedOnIfIdle = s.pieceHandedOn := if_pos h

theorem State.handedOnIfIdle_of_busy {s : State} (h : s.translator ≠ .idle) : s.handedOnIfIdle = s := if_neg h

/-- R50: the write of an unbound plane is dropped whole, and the router has finished with it. -/
theorem State.takeRequest_unbound {s : State} {r : Request} {rest : List Request} {p : Piece} {plane : Plane} {beats : List MaskedBeat}
    (hpieces : piecesOf s.fb r = [p]) (hplane : p.region = .aperture plane) (hpayload : p.payload = .write beats)
    (hwrite : r.payload.isWrite = true) (hlayout : s.boundLayout plane = none) :
    ∃ u, Dropped ((beats.flatMap Quad.toList).filter laneFilled).length (s.taken r rest [p]) u ∧ u.translator = .idle ∧
      { s with inbound := rest }.takeRequest r = { u with router := none } := by
  have htaken := s.taken_of_write rest [p] hwrite
  have hbound : (s.taken r rest [p]).boundLayout plane = none := by rw [htaken]; exact hlayout
  have hgiven := State.takeInHand_unbound (s.taken r rest [p]) plane (lanesFrom (p.addr - planeBase (s.taken r rest [p]).fb plane) beats)
  rw [map_snd_lanesFrom] at hgiven
  obtain ⟨hdropped, hidle⟩ := hgiven
  refine ⟨_, hdropped, hidle, ?_⟩
  rw [State.takeRequest_aperture hpieces hplane, State.translatePiece_write hpayload, hbound, State.handedOnIfIdle_of_idle hidle,
    State.pieceHandedOn_of_router (hdropped.router.trans (congrArg State.router htaken))]
  exact rfl

/-- Settles O25: the head of the queue is taken, and its first piece waits or goes to the translator, by the equations of the router and
the translator; the lanes of an unbound plane are counted one after another. -/
theorem routerTakesTheHead : Obligations.RouterTakesTheHead := by
  refine ⟨?pass, ?unbound, ?aperture, ?lanes, ?steps⟩
  case pass =>
    intro s r rest p ps hrouter hinbound hlink hpieces hpass
    rw [exec_of_concluded (act_routerTake hrouter hinbound hlink), State.takeRequest_pass hpieces hpass]
    exact ⟨fun hwrite => by rw [State.taken_of_write _ _ _ hwrite], fun hread => by rw [State.taken_of_read _ _ _ hread]⟩
  case unbound =>
    intro s r rest plane beats p hrouter hinbound hlink hpieces hplane hpayload hlayout dropped
    have hwrite : r.payload.isWrite = true := by rw [← payload_of_one_piece hpieces, hpayload]; rfl
    obtain ⟨u, hdropped, hidle, hstep⟩ := State.takeRequest_unbound (rest := rest) hpieces hplane hpayload hwrite hlayout
    rw [State.taken_of_write _ _ _ hwrite] at hdropped
    have hcounters := State.conclude_idle_counters (s := { u with router := none }) hidle
    refine ⟨State.conclude { u with router := none }, ?_, ?_, State.conclude_idle_router (s := { u with router := none }) hidle,
      State.conclude_idle_translator (s := { u with router := none }) hidle,
      (State.conclude_idle_outQueue_le (s := { u with router := none }) hidle).trans
        (Nat.le_of_eq (congrArg List.length (congrArg Aside.outQueue hdropped.aside))), fun hnone => ?_, fun hsome => ?_⟩
    · rw [exec_of_concluded (act_routerTake hrouter hinbound hlink), hstep]
    · exact (congrArg Kept.inbound (State.conclude_kept _)).trans (congrArg Kept.inbound hdropped.kept)
    · rw [hcounters]
      exact hdropped.none hnone
    · rw [hcounters]
      obtain ⟨hcount, hflag⟩ := hdropped.counted hsome
      exact ⟨hcount, State.conclude_flagsStay _ _ hflag⟩
  case aperture =>
    intro s r rest p ps plane hrouter hinbound hlink hpieces hplane layout base
    rw [exec_of_concluded (act_routerTake hrouter hinbound hlink), State.takeRequest_aperture hpieces hplane]
    refine ⟨fun beats hpayload hwrite => ?_, fun beats hpayload hread => ?_⟩
    · rw [State.translatePiece_write hpayload, State.taken, if_pos hwrite]
      exact rfl
    · intro plan assembly answered job
      have hentry : s.entryOf r = some s.nextId := if_neg (Bool.eq_false_iff.1 hread)
      have htaken := s.taken_of_read rest (p :: ps) hread
      have hjob : (s.taken r rest (p :: ps)).readJob plane p s.nextId beats = job := by rw [htaken]; exact rfl
      have hcollector : (s.taken r rest (p :: ps)).collector = s.collector := by rw [htaken]
      rw [hentry]
      refine ⟨fun hplan => ?_, fun q more hplan => ⟨fun hheld => ?_, fun hheld => ?_⟩⟩
      · rw [State.translatePiece_read_empty hpayload rfl (by rw [hjob]; exact hplan), State.handedOnIfIdle_of_idle rfl, htaken]
        exact rfl
      · rw [← hcollector] at hheld
        rw [State.translatePiece_read_clear hpayload rfl (by rw [hjob]; exact hplan) hheld,
          State.handedOnIfIdle_of_busy Translator.noConfusion, htaken]
        exact rfl
      · rw [← hcollector] at hheld
        rw [State.translatePiece_read_held hpayload rfl (by rw [hjob]; exact hplan) hheld,
          State.handedOnIfIdle_of_busy Translator.noConfusion, htaken]
        exact rfl
  case lanes => exact fun o n k beats => ⟨lanesFrom_length o beats, fun hn hk => getElem?_lanesFrom o beats hn hk _⟩
  case steps =>
    intro layout o bytes rest steps all
    refine ⟨rfl, fun hclear => consStep_of_clear hclear steps, fun hfilled => ⟨fun hout => consStep_of_orphan hfilled steps hout,
      fun hout => consStep_of_padding hfilled steps hout, fun v u row hout => ?_⟩⟩
    intro lane
    refine ⟨fun hturned => consStep_of_turned hfilled steps hout ((View.turned_iff v).2 hturned), fun hstraight => ?_⟩
    have hturned : v.turned = false := by
      obtain h | h := hstraight <;>
      · simp [View.turned, h]
    exact ⟨fun lanes more hsteps => consStep_of_joined hfilled steps hout hturned hsteps,
      fun hsteps => consStep_of_new hfilled steps hout hturned hsteps⟩

/-! ### Pass pieces (R8 to R10) -/

theorem RouterHold.passPiece_eq {h : RouterHold} {p : Piece} {more : List Piece} (hpieces : h.pieces = p :: more)
    (hpass : ∀ q, p.region ≠ .aperture q) : h.passPiece = some p := by
  rw [RouterHold.passPiece, hpieces]
  dsimp only
  split
  · next plane hplane => exact absurd hplane (hpass plane)
  all_goals rfl

theorem fullBeat_masked (b : DataBeat) : fullBeat (DataBeat.masked b) = some b := rfl

theorem fullBeats_masked (data : List DataBeat) : fullBeats (data.map DataBeat.masked) = some data := by
  induction data with
  | nil => rfl
  | cons b rest ih => simp only [List.map_cons, fullBeats, fullBeat_masked, ih]

/-- R9: a write of 64 enabled bytes to the mailbox. -/
theorem mailboxBytes_eq {fb : Nat} {r : Request} {data : List DataBeat} (haddr : r.addr = fb + 0x4000000)
    (hpayload : r.payload = .write (data.map DataBeat.masked)) (hlength : data.length = 4) : mailboxBytes fb r = some data := by
  rw [mailboxBytes, hpayload]
  dsimp only
  rw [if_pos ⟨haddr, by rw [List.length_map, hlength]⟩, fullBeats_masked]

section PassPlace
variable {s : State} {h : RouterHold} {p : Piece} {more : List Piece} (hrouter : s.router = some h) (hpieces : h.pieces = p :: more)
  (hpass : ∀ q, p.region ≠ .aperture q)
include hrouter hpieces hpass

theorem act_passSegmentPlace_full (hfull : 16 ≤ s.outQueue.length) : act .passSegmentPlace s = .still s := by
  simp only [act, actPassSegmentPlace, hrouter, RouterHold.passPiece_eq hpieces hpass]
  refine if_neg fun hroom => ?_
  have hroom : s.outQueue.length < 16 := of_decide_eq_true hroom
  omega

variable (hroom : s.outQueue.length < 16)
include hroom

theorem act_passSegmentPlace_plain (hmailbox : mailboxBytes s.fb h.request = none) :
    act .passSegmentPlace s = .concluded (s.placePass h p).pieceHandedOn := by
  simp only [act, actPassSegmentPlace, hrouter, RouterHold.passPiece_eq hpieces hpass, State.outputRoom_of_lt hroom, hmailbox, if_true]

theorem act_passSegmentPlace_mailbox {data : List DataBeat} (hmailbox : mailboxBytes s.fb h.request = some data) :
    act .passSegmentPlace s = .concluded (s.placeMailbox h p data) := by
  simp only [act, actPassSegmentPlace, hrouter, RouterHold.passPiece_eq hpieces hpass, State.outputRoom_of_lt hroom, hmailbox, if_true]

end PassPlace

/-- Whether the choice point comes before or after, the placement has used up one free choice (log 7). -/
theorem State.placementChoice_eq (s : State) :
    ∃ u, (u = s ∨ u = s.choicePoint) ∧ s.placementChoice = { u with freeCount := s.freeCount + 1 } := by
  unfold State.placementChoice State.tickFree
  split
  · exact ⟨s.choicePoint, .inr rfl, by rw [State.choicePoint_freeCount]⟩
  · exact ⟨s, .inl rfl, rfl⟩

/-- Settles O26: the placement by its act, and the router's way through the pieces by the equations of its work. -/
theorem passPieceIsPlaced : Obligations.PassPieceIsPlaced := by
  refine ⟨?plain, ?mailbox, ?handedOn, ?translate⟩
  case plain =>
    intro s h p more hrouter hpieces hpass hmailbox
    exact ⟨fun hroom => exec_of_concluded (act_passSegmentPlace_plain hrouter hpieces hpass hroom hmailbox),
      fun hfull => exec_of_still (act_passSegmentPlace_full hrouter hpieces hpass hfull)⟩
  case mailbox =>
    intro s h p more data hrouter hpieces hpass hroom haddr hpayload hlength
    obtain ⟨u, hu, hchoice⟩ := State.placementChoice_eq { s.placePass h p with mailboxOutstanding := some s.nextId }
    refine ⟨u, hu, ?_⟩
    rw [exec_of_concluded (act_passSegmentPlace_mailbox hrouter hpieces hpass hroom (mailboxBytes_eq haddr hpayload hlength)),
      State.placeMailbox, hchoice]
    exact rfl
  case handedOn =>
    intro s
    refine ⟨fun hnone => by rw [State.pieceHandedOn, hnone], fun h hrouter => ?_⟩
    rw [State.pieceHandedOn_of_router hrouter]
    refine ⟨fun hlast => by rw [hlast, State.workOn_nil], fun p more hmore => ?_⟩
    rw [hmore]
    refine ⟨fun hpass => s.workOn_pass h hpass more, fun plane hplane => ?_⟩
    rw [s.workOn_aperture h hplane more]
    exact ⟨fun hbusy => State.handedOnIfIdle_of_busy hbusy, fun hidle => State.handedOnIfIdle_of_idle hidle⟩
  case translate =>
    intro s plane p response layout base
    refine ⟨fun beats hpayload => State.translatePiece_write hpayload, fun beats id hpayload hid => ?_⟩
    exact ⟨fun hplan => State.translatePiece_read_empty hpayload hid hplan,
      fun q rest hplan => ⟨fun hheld => State.translatePiece_read_clear hpayload hid hplan hheld,
        fun hheld => State.translatePiece_read_held hpayload hid hplan hheld⟩⟩

end Sys2Proof.Machine
end

section
/-! Returned data (R11, R62, R154): where a beat goes, and what goes upstream with it. -/

namespace Sys2Proof.Machine

/-! ### Answers in order (R11) -/

theorem completeBeats_append (ready : List DataBeat) (wait : List (Option DataBeat)) :
    completeBeats (ready.map some ++ wait) = ready ++ completeBeats wait := by
  induction ready with
  | nil => rfl
  | cons b rest ih => exact congrArg (b :: ·) ih

theorem sendReady_cons (e : Response) (rest : List Response) :
    sendReady (e :: rest) =
      if e.sent + (completeBeats (e.beats.drop e.sent)).length = e.beats.length then
        (completeBeats (e.beats.drop e.sent) ++ (sendReady rest).1, (sendReady rest).2)
      else
        (completeBeats (e.beats.drop e.sent),
          { e with sent := e.sent + (completeBeats (e.beats.drop e.sent)).length } :: rest) := rfl

/-- The oldest entry's leading complete beats go first. -/
theorem completeBeats_prefix_sendReady (e : Response) (rest : List Response) :
    completeBeats (e.beats.drop e.sent) <+: (sendReady (e :: rest)).1 := by
  rw [sendReady_cons]
  split
  · exact List.prefix_append _ _
  · exact List.prefix_rfl

section Ready
variable {e : Response} {rest : List Response} {ready : List DataBeat}

theorem sendReady_of_whole (hsent : e.sent ≤ e.beats.length) (h : e.beats.drop e.sent = ready.map some) :
    sendReady (e :: rest) = (ready ++ (sendReady rest).1, (sendReady rest).2) := by
  have hout : completeBeats (e.beats.drop e.sent) = ready := by
    rw [h, ← List.append_nil (ready.map some), completeBeats_append]
    exact List.append_nil _
  have hlength := congrArg List.length h
  rw [List.length_drop, List.length_map] at hlength
  rw [sendReady_cons, hout, if_pos (by omega)]

theorem sendReady_of_waiting {more : List (Option DataBeat)} (hsent : e.sent ≤ e.beats.length)
    (h : e.beats.drop e.sent = ready.map some ++ none :: more) :
    sendReady (e :: rest) = (ready, { e with sent := e.sent + ready.length } :: rest) := by
  have hout : completeBeats (e.beats.drop e.sent) = ready := by
    rw [h, completeBeats_append]
    exact List.append_nil _
  have hlength := congrArg List.length h
  rw [List.length_drop, List.length_append, List.length_map, List.length_cons] at hlength
  rw [sendReady_cons, hout, if_neg (by omega)]

/-- The next beat of the oldest entry is complete. -/
theorem sendReady_of_next {data : DataBeat} (h : e.sent < e.beats.length) :
    ∃ more, (sendReady ({ e with beats := e.beats.set e.sent (some data) } :: rest)).1 = data :: more := by
  have hlt : e.sent < (e.beats.set e.sent (some data)).length := by rw [List.length_set]; exact h
  obtain ⟨more, hmore⟩ := completeBeats_prefix_sendReady { e with beats := e.beats.set e.sent (some data) } rest
  rw [← hmore]
  dsimp only
  rw [List.drop_eq_getElem_cons hlt, List.getElem_set_self]
  exact ⟨_, rfl⟩

end Ready

theorem assembledBeat_iff (q : Quad LaneSource) (data : DataBeat) :
    assembledBeat q = some data ↔ ∀ k < 4, q.get k = .filled (data.get k) := by
  have hfilled (x : LaneSource) (bytes : Quad Byte) : x.bytes? = some bytes ↔ x = .filled bytes := by
    cases x <;> simp [LaneSource.bytes?]
  have hbeat : assembledBeat q = some data ↔ q.e0.bytes? = some data.e0 ∧ q.e1.bytes? = some data.e1 ∧ q.e2.bytes? = some data.e2 ∧
      q.e3.bytes? = some data.e3 := by
    unfold assembledBeat
    split
    · next a b c d ha hb hc hd =>
      rw [ha, hb, hc, hd]
      obtain ⟨d0, d1, d2, d3⟩ := data
      simp
    · next hnone =>
      refine iff_of_false (by simp) ?_
      rintro ⟨h0, h1, h2, h3⟩
      exact hnone _ _ _ _ h0 h1 h2 h3
  rw [hbeat, hfilled, hfilled, hfilled, hfilled]
  constructor
  · rintro ⟨h0, h1, h2, h3⟩ k hk
    match k, hk with
    | 0, _ => exact h0
    | 1, _ => exact h1
    | 2, _ => exact h2
    | 3, _ => exact h3
  · exact fun h => ⟨h 0 (by decide), h 1 (by decide), h 2 (by decide), h 3 (by decide)⟩

/-! ### What has gone upstream stays gone -/

/-- No beat sent is taken back. -/
structure SentOn (s t : State) : Prop where
  sent : s.sentUpstream <+: t.sentUpstream

theorem SentOn.of_eq {s t : State} (h : t.sentUpstream = s.sentUpstream) : SentOn s t := ⟨h ▸ List.prefix_rfl⟩

theorem SentOn.trans {s t u : State} (h : SentOn s t) (k : SentOn t u) : SentOn s u := ⟨h.sent.trans k.sent⟩

theorem State.sendUpstream_sentOn (s : State) : SentOn s s.sendUpstream := ⟨List.prefix_append _ _⟩

theorem State.takeInHand_sentOn (s : State) (plane : Plane) (layout : Option Layout) (steps : List LaneStep) :
    SentOn s (s.takeInHand plane layout steps) := by
  obtain ⟨st, b, x, h⟩ := s.takeInHand_eq plane layout steps
  exact .of_eq (by rw [h])

theorem State.enquire_sentOn (s : State) (job : ReadJob) : SentOn s (s.enquire job) := by
  obtain ⟨c, x, h⟩ := s.enquire_eq job
  exact .of_eq (by rw [h])

theorem State.setAssembled_sentOn (s : State) (id first : Nat) (assembly : List (Quad LaneSource)) :
    SentOn s (s.setAssembled id first assembly) := .of_eq (by rw [State.setAssembled_eq])

theorem State.translatePiece_sentOn (s : State) (plane : Plane) (p : Piece) (response : Option Nat) :
    SentOn s (s.translatePiece plane p response) := by
  have hblanks (id first : Nat) (assembly : List (Quad LaneSource)) : SentOn s (s.setAssembled id first assembly).sendUpstream :=
    (s.setAssembled_sentOn id first assembly).trans (State.sendUpstream_sentOn _)
  unfold State.translatePiece
  dsimp only
  split
  · exact s.takeInHand_sentOn _ _ _
  · split
    · exact (hblanks _ _ _).trans (.of_eq rfl)
    · exact (hblanks _ _ _).trans (State.enquire_sentOn _ _)

theorem State.workOn_sentOn (s : State) (hold : RouterHold) (ps : List Piece) : SentOn s (s.workOn hold ps) := by
  induction ps generalizing s with
  | nil => exact .of_eq rfl
  | cons p rest ih =>
    have hheld : SentOn s { s with router := some { hold with pieces := p :: rest } } := .of_eq rfl
    unfold State.workOn
    dsimp only
    split
    · split
      · exact (hheld.trans (State.translatePiece_sentOn _ _ _ _)).trans (ih _)
      · exact hheld.trans (State.translatePiece_sentOn _ _ _ _)
    all_goals exact hheld

theorem State.handedOnIfIdle_sentOn (s : State) : SentOn s s.handedOnIfIdle := by
  unfold State.handedOnIfIdle
  split
  · unfold State.pieceHandedOn
    split
    · exact .of_eq rfl
    · exact s.workOn_sentOn _ _
  · exact .of_eq rfl

theorem State.goOn_sentOn (s : State) (job : WriteJob) : SentOn s (s.goOn job) :=
  (State.takeInHand_sentOn _ _ _ _).trans (State.handedOnIfIdle_sentOn _)

theorem State.offerInsert_sentOn (s : State) (job : WriteJob) (i : Insert) : SentOn s (s.offerInsert job i) := by
  unfold State.offerInsert
  dsimp only
  split <;> split
  · refine SentOn.trans ?_ (State.goOn_sentOn _ job)
    exact .of_eq rfl
  · refine SentOn.trans ?_ (State.goOn_sentOn _ job)
    exact .of_eq rfl
  · exact .of_eq rfl
  · exact .of_eq rfl

theorem State.retryInsert_sentOn (s : State) : SentOn s s.retryInsert := by
  unfold State.retryInsert
  split
  · split
    · split
      · exact s.offerInsert_sentOn _ _
      · exact .of_eq rfl
    all_goals exact .of_eq rfl
  all_goals exact .of_eq rfl

/-! ### The end of a step while the port is busy -/

section Busy
variable {s : State} {f : Flight} (hport : s.port = some f)
include hport

theorem State.conclude_of_busy : s.conclude = (State.settleSwaps 2 s).retryInsert.retryInsert := by
  rw [State.conclude, State.choicePoint_of_port_isSome]
  rw [State.retryInsert_port, show (State.settleSwaps 2 s).port = s.port from congrArg Beside.port (State.settleSwaps_steps 2 s).beside,
    hport]
  rfl

theorem State.conclude_busy_port : s.conclude.port = some f := by
  rw [State.conclude_of_busy hport, State.retryInsert_port, State.retryInsert_port]
  exact (congrArg Beside.port (State.settleSwaps_steps 2 s).beside).trans hport

theorem State.conclude_busy_layouts : s.conclude.layouts = s.layouts := by
  rw [State.conclude_of_busy hport]
  exact ((congrArg Aside.layouts (State.retryInsert_aside _)).trans (congrArg Aside.layouts (State.retryInsert_aside _))).trans
    (congrArg Beside.layouts (State.settleSwaps_steps 2 s).beside)

theorem State.conclude_busy_sentOn : SentOn s s.conclude := by
  rw [State.conclude_of_busy hport]
  exact (SentOn.of_eq (congrArg Beside.sentUpstream (State.settleSwaps_steps 2 s).beside)).trans
    ((State.retryInsert_sentOn _).trans (State.retryInsert_sentOn _))

theorem State.conclude_busy_of_rest (hswap : s.swapDue = none) (hwaits : s.waitingInsert = none) : s.conclude = s := by
  rw [State.conclude_of_rest hswap hwaits, State.choicePoint_of_port_isSome (by rw [hport]; rfl)]

end Busy

/-! ### A beat returns (R154) -/

section ReadDataReturn
variable {s : State} {f : Flight} {beats : List EnableBeat} (other : DataBeat) (hport : s.port = some f)
  (hpayload : f.payload = .read beats)
  (hmoved : f.moved < beats.length)
include hport hpayload hmoved

theorem exec_readDataReturn : exec (.readDataReturn other) s = .next (s.returnBeat f other).conclude := by
  have hlength : f.moved < f.payload.length := by rw [hpayload]; exact hmoved
  refine exec_of_concluded ?_
  simp [act, actReadDataReturn, hport, hpayload, Payload.isWrite, Payload.length, hmoved]

end ReadDataReturn

/-- The read in flight is one beat further. -/
def State.beatMoved (s : State) (f : Flight) : State := { s with port := some { f with moved := f.moved + 1 } }

theorem State.returnBeat_of_unwanted (s : State) {f : Flight} (h : f.wanted = false) (other : DataBeat) :
    s.returnBeat f other = s.beatMoved f := if_neg (Bool.eq_false_iff.1 h)

theorem State.returnBeat_of_wanted (s : State) {f : Flight} (h : f.wanted = true) (other : DataBeat) :
    s.returnBeat f other =
      (s.beatMoved f).deliverBeat f.origin f.moved (Memory.returnBeat s.mem (f.addr + 16 * f.moved) other) := if_pos h

/-! ### Translated reads (R62) -/

theorem State.assemble_of_readJob {s : State} {job : ReadJob} {index beat : Nat} {data : DataBeat} {x : Translator}
    (hmap : s.translator.mapRead (fun job => job.fill index beat data) = x) (hjob : x.readJob? = some job) :
    s.assemble index beat data =
      ({ s with translator := x }.setAssembled job.response job.first job.assembly).sendUpstream.finishRead := by
  subst hmap
  rw [State.assemble]
  dsimp only
  rw [hjob]

theorem State.finishRead_of_waiting {s : State} {job : ReadJob} (h : s.translator = .readWait job) :
    s.finishRead = if assemblyComplete job.assembly then { s with translator := .idle }.pieceHandedOn else s := by
  rw [State.finishRead, h]

theorem State.finishRead_of_other {s : State} (h : ∀ job, s.translator ≠ .readWait job) : s.finishRead = s := by
  unfold State.finishRead
  split
  · next job hjob => exact absurd hjob (h job)
  all_goals rfl

theorem assemblyComplete_iff (assembly : List (Quad LaneSource)) :
    assemblyComplete assembly = true ↔ ∀ q ∈ assembly, assembledBeat q ≠ none := by
  simp [assemblyComplete, Option.isSome_iff_ne_none]

/-- The state in which a translated read's beat has been answered. -/
def State.beatAnswered (s : State) (job : ReadJob) (assembly : List (Quad LaneSource)) (x : Translator) : State :=
  State.sendUpstream (State.setAssembled { s with translator := x } job.response job.first assembly)

theorem State.beatAnswered_translator (s : State) (job : ReadJob) (assembly : List (Quad LaneSource)) (x : Translator) :
    (s.beatAnswered job assembly x).translator = x := by
  rw [State.beatAnswered, State.setAssembled_eq]
  rfl

theorem State.finishRead_pathSteps (s : State) : PathSteps s s.finishRead := by
  unfold State.finishRead
  split
  · split
    · exact (PathSteps.goes (u := { s with translator := .idle }) (.refl s)).trans (State.pieceHandedOn_pathSteps _)
    · exact .refl s
  all_goals exact .refl s

theorem State.assemble_pathSteps (s : State) (index beat : Nat) (data : DataBeat) : PathSteps s (s.assemble index beat data) := by
  have hmapped : PathSteps s { s with translator := s.translator.mapRead fun job => job.fill index beat data } := (PathSteps.refl s).goes
  unfold State.assemble
  dsimp only
  split
  · exact hmapped
  · exact (hmapped.trans ((State.setAssembled_pathSteps _ _ _ _).goes (u := State.sendUpstream _))).trans (State.finishRead_pathSteps _)

theorem State.deliverBeat_port (s : State) (origin : Origin) (beat : Nat) (data : DataBeat) :
    (s.deliverBeat origin beat data).port = s.port := by
  unfold State.deliverBeat
  split
  · unfold State.takeFetchBeat
    split <;> rfl
  · rfl
  · rfl
  · rfl
  · exact congrArg Aside.port (s.assemble_pathSteps _ _ _).aside
  all_goals rfl

theorem State.returnBeat_port (s : State) (f : Flight) (other : DataBeat) :
    (s.returnBeat f other).port = some { f with moved := f.moved + 1 } := by
  unfold State.returnBeat
  dsimp only
  split
  · exact State.deliverBeat_port _ _ _ _
  · rfl

theorem State.returnBeat_mem (s : State) (f : Flight) (other : DataBeat) : (s.returnBeat f other).mem = s.mem :=
  congrArg Own.mem (s.returnBeat_own f other)

/-- R11, R154: the next beat of the oldest entry goes upstream. -/
theorem State.deliverBeat_pass {s : State} {id e first beat : Nat} {entry : Response} {rest : List Response} (data : DataBeat)
    (hresponses : s.responses = entry :: rest) (hid : entry.id = e) (hsent : entry.sent = first + beat)
    (hlt : first + beat < entry.beats.length) :
    ∃ more, (s.deliverBeat (.path id (.pass (some (e, first)))) beat data).sentUpstream = s.sentUpstream ++ data :: more := by
  subst hid
  rw [← hsent] at hlt
  obtain ⟨more, hmore⟩ := sendReady_of_next
    (rest := rest.map fun r => if r.id = entry.id then { r with beats := r.beats.set entry.sent (some data) } else r)
    (data := data) hlt
  refine ⟨more, ?_⟩
  simp only [State.deliverBeat, State.setBeat, State.sendUpstream, hresponses, List.map_cons, if_true, ← hsent, hmore]

section Translated
variable {s : State} {job : ReadJob} {index beat : Nat} {data : DataBeat}

/-- The read job with a returned beat filled in. -/
theorem ReadJob.fill_eq (job : ReadJob) (index beat : Nat) (data : DataBeat) :
    job.fill index beat data = { job with assembly := job.assembly.map fun q => q.map (LaneSource.fill index beat data) } := rfl

theorem State.assemble_of_other (hmap : ∀ job', s.translator.mapRead (fun job => job.fill index beat data) ≠ .readWait job')
    (hjob : (s.translator.mapRead fun job => job.fill index beat data).readJob? = some (job.fill index beat data)) :
    s.assemble index beat data = s.beatAnswered job (job.fill index beat data).assembly
      (s.translator.mapRead fun job => job.fill index beat data) := by
  rw [State.assemble_of_readJob rfl hjob]
  refine State.finishRead_of_other fun job' h => hmap job' ?_
  rw [← h]
  exact (State.beatAnswered_translator s job (job.fill index beat data).assembly _).symm

variable (h : s.translator = .readWait job)
include h

theorem State.assemble_of_wait :
    s.assemble index beat data =
      if assemblyComplete (job.fill index beat data).assembly then
        (s.beatAnswered job (job.fill index beat data).assembly .idle).pieceHandedOn
      else s.beatAnswered job (job.fill index beat data).assembly (.readWait (job.fill index beat data)) := by
  rw [State.assemble_of_readJob (x := .readWait (job.fill index beat data)) (by rw [h]; rfl) rfl]
  refine (State.finishRead_of_waiting (State.beatAnswered_translator s job (job.fill index beat data).assembly _)).trans ?_
  rw [State.beatAnswered, State.setAssembled_eq, State.beatAnswered, State.setAssembled_eq]
  exact rfl

theorem State.assemble_of_wait_open (hopen : ∃ q ∈ (job.fill index beat data).assembly, assembledBeat q = none) :
    s.assemble index beat data = s.beatAnswered job (job.fill index beat data).assembly (.readWait (job.fill index beat data)) := by
  refine (State.assemble_of_wait h).trans (if_neg fun hcomplete => ?_)
  obtain ⟨q, hq, hnone⟩ := hopen
  exact (assemblyComplete_iff _).1 hcomplete q hq hnone

theorem State.assemble_of_wait_filled (hfilled : ∀ q ∈ (job.fill index beat data).assembly, assembledBeat q ≠ none) :
    s.assemble index beat data = (s.beatAnswered job (job.fill index beat data).assembly .idle).pieceHandedOn :=
  (State.assemble_of_wait h).trans (if_pos ((assemblyComplete_iff _).2 hfilled))

end Translated

/-- Settles O32: the beat is delivered by its origin, and nothing of the step's end takes back what went upstream or touches the port. -/
theorem returnedBeatGoesToItsSource : Obligations.ReturnedBeatGoesToItsSource := by
  refine ⟨?returned, ?translated, fun s id first assembly => s.setAssembled_eq id first assembly, assembledBeat_iff, ?ready⟩
  case returned =>
    intro s f beats other hport hpayload hmoved data
    have hdelivered := s.returnBeat_port f other
    refine ⟨_, exec_readDataReturn other hport hpayload hmoved, State.conclude_busy_port hdelivered, ?_, ?_, ?_, ?_⟩
    · exact (congrArg Kept.mem (State.conclude_kept _)).trans (s.returnBeat_mem f other)
    · intro l hwanted horigin hload
      rw [State.conclude_busy_layouts hdelivered, s.returnBeat_of_wanted hwanted, horigin]
      simp only [State.deliverBeat, State.takeFetchBeat, State.beatMoved, hload]
      exact rfl
    · intro id e first entry rest hwanted horigin hresponses hid hsent hlt
      obtain ⟨more, hmore⟩ := State.deliverBeat_pass (s := s.beatMoved f) (id := id) data hresponses hid hsent hlt
      rw [← horigin, ← s.returnBeat_of_wanted hwanted] at hmore
      obtain ⟨late, hlate⟩ := (State.conclude_busy_sentOn hdelivered).sent
      exact ⟨more ++ late, by rw [← hlate, hmore, List.append_assoc]; rfl⟩
    · intro hwanted hswap hwaits
      rw [s.returnBeat_of_unwanted hwanted]
      exact State.conclude_busy_of_rest (f := { f with moved := f.moved + 1 }) rfl ((State.swapDue_congr rfl rfl).trans hswap) hwaits
  case translated =>
    intro s f beats other id index job hport hpayload hmoved hwanted horigin data filled left after
    have hstep : exec (.readDataReturn other) s = .next ((s.beatMoved f).assemble index f.moved data).conclude := by
      rw [exec_readDataReturn other hport hpayload hmoved, s.returnBeat_of_wanted hwanted, horigin]
      exact rfl
    rw [hstep]
    refine ⟨fun h => ?_, fun matched h => ?_, fun h => ?_⟩
    · have htranslator : (s.beatMoved f).translator = .readIssue job := h
      rw [State.assemble_of_other (job := job) (by rw [htranslator]; exact fun _ => Translator.noConfusion)
        (by rw [htranslator]; exact rfl), htranslator]
      exact rfl
    · have htranslator : (s.beatMoved f).translator = .readHeld job matched := h
      rw [State.assemble_of_other (job := job) (by rw [htranslator]; exact fun _ => Translator.noConfusion)
        (by rw [htranslator]; exact rfl), htranslator]
      exact rfl
    · refine ⟨fun hopen => ?_, fun hfilled => ?_⟩
      · rw [State.assemble_of_wait_open (s := s.beatMoved f) h hopen]
        exact rfl
      · rw [State.assemble_of_wait_filled (s := s.beatMoved f) h hfilled]
        exact rfl
  case ready =>
    intro s e rest ready wait hresponses hsent hbeats
    refine ⟨?_, ?_⟩
    · rintro rfl
      rw [List.append_nil] at hbeats
      rw [State.sendUpstream, hresponses, sendReady_of_whole hsent hbeats]
      exact ⟨(List.append_assoc _ _ _).symm, rfl⟩
    · rintro more rfl
      rw [State.sendUpstream, hresponses, sendReady_of_waiting hsent hbeats]
end Sys2Proof.Machine
end

section
/-! The sweep of a fill job (R139, R140): region pixels and region beats, the next region beat, and the run of a burst. -/

namespace Sys2Proof.Machine

/-! ### Region pixels and region beats -/

theorem Rect.covers_iff (r : Rect) (x y : Nat) :
    r.covers x y = true ↔ r.x ≤ x ∧ x < r.x + r.width ∧ r.y ≤ y ∧ y < r.y + r.height := by
  simp only [Rect.covers, Bool.and_eq_true, decide_eq_true_eq, and_assoc]

theorem inRegion_iff_covers (r : Rect) (holes : List Rect) (x y : Nat) :
    inRegion r holes x y = true ↔ r.covers x y = true ∧ ∀ h ∈ holes, ¬h.covers x y = true := by
  simp [inRegion]

theorem inRegion_iff (r : Rect) (holes : List Rect) (x y : Nat) :
    inRegion r holes x y = true ↔
      (r.x ≤ x ∧ x < r.x + r.width ∧ r.y ≤ y ∧ y < r.y + r.height) ∧
        ∀ h ∈ holes, ¬(h.x ≤ x ∧ x < h.x + h.width ∧ h.y ≤ y ∧ y < h.y + h.height) := by
  simp only [inRegion_iff_covers, Rect.covers_iff]

theorem regionBeat_iff (r : Rect) (holes : List Rect) (y b : Nat) :
    regionBeat r holes y b = true ↔ ∃ k < 4, inRegion r holes (4 * b + k) y = true := by
  simp only [regionBeat, Bool.or_eq_true]
  constructor
  · rintro (((h | h) | h) | h)
    · exact ⟨0, by decide, h⟩
    · exact ⟨1, by decide, h⟩
    · exact ⟨2, by decide, h⟩
    · exact ⟨3, by decide, h⟩
  · rintro ⟨k, hk, h⟩
    match k, hk with
    | 0, _ => exact .inl (.inl (.inl h))
    | 1, _ => exact .inl (.inl (.inr h))
    | 2, _ => exact .inl (.inr h)
    | 3, _ => exact .inr h

/-- The beat of a region pixel is a region beat. -/
theorem regionBeat_of_pixel {r : Rect} {holes : List Rect} {x y : Nat} (h : inRegion r holes x y = true) :
    regionBeat r holes y (x / 4) = true :=
  (regionBeat_iff r holes y (x / 4)).2 ⟨x % 4, Nat.mod_lt _ (by decide), by rw [Nat.div_add_mod]; exact h⟩

theorem exists_pixel_of_regionBeat {r : Rect} {holes : List Rect} {y b : Nat} (h : regionBeat r holes y b = true) :
    ∃ x, x / 4 = b ∧ inRegion r holes x y = true := by
  obtain ⟨k, hk, hpixel⟩ := (regionBeat_iff r holes y b).1 h
  exact ⟨4 * b + k, by omega, hpixel⟩

/-! ### The run of a burst -/

section RunLength
variable (r : Rect) (holes : List Rect) (y : Nat)

theorem runLength_le (n b : Nat) : runLength r holes y n b ≤ n := by
  induction n generalizing b with
  | zero => exact Nat.le_refl 0
  | succ n ih =>
    unfold runLength
    split
    · exact Nat.succ_le_succ (ih (b + 1))
    · exact Nat.zero_le _

theorem regionBeat_of_lt_runLength {n b j : Nat} (h : j < runLength r holes y n b) : regionBeat r holes y (b + j) = true := by
  induction n generalizing b j with
  | zero => cases h
  | succ n ih =>
    unfold runLength at h
    split at h
    · next hbeat =>
      cases j with
      | zero => exact hbeat
      | succ j =>
        rw [show b + (j + 1) = b + 1 + j by omega]
        exact ih (Nat.lt_of_succ_lt_succ h)
    · cases h

theorem regionBeat_runLength_end {n b : Nat} (h : runLength r holes y n b < n) :
    regionBeat r holes y (b + runLength r holes y n b) = false := by
  induction n generalizing b with
  | zero => cases h
  | succ n ih =>
    unfold runLength at h ⊢
    split at h
    · next hbeat =>
      rw [if_pos hbeat, show b + (runLength r holes y n (b + 1) + 1) = b + 1 + runLength r holes y n (b + 1) by omega]
      exact ih (Nat.lt_of_succ_lt_succ h)
    · next hbeat =>
      rw [if_neg hbeat]
      exact Bool.eq_false_iff.2 hbeat

end RunLength

/-! ### The next region beat of a row -/

section SkipHoles
variable {holes : List Rect} {y : Nat}

theorem le_skipHoles (n x : Nat) : x ≤ skipHoles holes y n x := by
  induction n generalizing x with
  | zero => exact Nat.le_refl x
  | succ n ih =>
    unfold skipHoles
    split
    · exact Nat.le_refl x
    · next h hfind =>
      have hcovers := (Rect.covers_iff h x y).1 (List.find?_some (p := fun h : Rect => h.covers x y) hfind)
      exact (Nat.le_of_lt hcovers.2.1).trans (ih _)

/-- Every column passed over lies in a hole. -/
theorem hole_of_skipped {n x z : Nat} (hx : x ≤ z) (hz : z < skipHoles holes y n x) : ∃ h ∈ holes, h.covers z y = true := by
  induction n generalizing x with
  | zero => exact absurd hz (Nat.not_lt.2 hx)
  | succ n ih =>
    unfold skipHoles at hz
    split at hz
    · exact absurd hz (Nat.not_lt.2 hx)
    · next h hfind =>
      obtain ⟨hleft, -, hrow⟩ := (Rect.covers_iff h x y).1 (List.find?_some (p := fun h : Rect => h.covers x y) hfind)
      obtain hin | hbeyond := Nat.lt_or_ge z (h.x + h.width)
      · exact ⟨h, List.mem_of_find?_eq_some hfind, (Rect.covers_iff h z y).2 ⟨hleft.trans hx, hin, hrow⟩⟩
      · exact ih hbeyond hz

/-- The holes that end to the right of a column. -/
def holesAhead (holes : List Rect) (x : Nat) : List Rect := holes.filter fun h => decide (x < h.x + h.width)

/-- A hole passed is ahead no more. -/
theorem holesAhead_passed {h : Rect} {x : Nat} (hmem : h ∈ holes) (hcovers : h.covers x y = true) :
    (holesAhead holes (h.x + h.width)).length < (holesAhead holes x).length := by
  have hahead := ((Rect.covers_iff h x y).1 hcovers).2.1
  have hsub : holesAhead holes (h.x + h.width) = (holesAhead holes x).filter fun g => decide (h.x + h.width < g.x + g.width) := by
    rw [holesAhead, holesAhead, List.filter_filter]
    refine List.filter_congr fun g _ => ?_
    by_cases hg : h.x + h.width < g.x + g.width
    · simp [hg, hahead.trans hg]
    · simp [hg]
  rw [hsub]
  exact List.length_filter_lt_length_iff_exists.2 ⟨h, List.mem_filter.2 ⟨hmem, decide_eq_true hahead⟩, by simp⟩

/-- With as many passes as holes ahead, the column reached lies in none. -/
theorem not_covers_skipHoles {n x : Nat} (hn : (holesAhead holes x).length ≤ n) {g : Rect} (hg : g ∈ holes) :
    ¬g.covers (skipHoles holes y n x) y = true := by
  induction n generalizing x with
  | zero =>
    intro hcovers
    have hahead := ((Rect.covers_iff g x y).1 hcovers).2.1
    have hmem : g ∈ holesAhead holes x := List.mem_filter.2 ⟨hg, decide_eq_true hahead⟩
    exact absurd (List.length_pos_of_mem hmem) (Nat.not_lt.2 hn)
  | succ n ih =>
    unfold skipHoles
    split
    · next hfind => exact List.find?_eq_none.1 hfind g hg
    · next h hfind =>
      have hpassed := holesAhead_passed (List.mem_of_find?_eq_some hfind) (List.find?_some (p := fun h : Rect => h.covers x y) hfind)
      exact ih (Nat.le_of_lt_succ (hpassed.trans_le hn))

end SkipHoles

section NextBeatInRow
variable {r : Rect} {holes : List Rect} {y b : Nat}

/-- A region pixel at or after beat b is at or after the column the holes leave. -/
theorem skipHoles_le_of_pixel {x : Nat} (h : inRegion r holes x y = true) (hb : b ≤ x / 4) :
    skipHoles holes y holes.length (max r.x (4 * b)) ≤ x := by
  obtain ⟨hcovers, hholes⟩ := (inRegion_iff_covers r holes x y).1 h
  have hleft := ((Rect.covers_iff r x y).1 hcovers).1
  by_contra hlt
  obtain ⟨g, hg, hskipped⟩ := hole_of_skipped (Nat.max_le.2 ⟨hleft, by omega⟩) (Nat.lt_of_not_le hlt)
  exact hholes g hg hskipped

theorem nextBeatInRow_none (h : nextBeatInRow r holes y b = none) {x : Nat} (hx : inRegion r holes x y = true) : x / 4 < b := by
  unfold nextBeatInRow at h
  dsimp only at h
  split at h
  · cases h
  · next hbeyond =>
    by_contra hb
    have hle := skipHoles_le_of_pixel hx (Nat.le_of_not_lt hb)
    have hright := ((Rect.covers_iff r x y).1 ((inRegion_iff_covers r holes x y).1 hx).1).2.1
    omega

theorem nextBeatInRow_some {b' : Nat} (h : nextBeatInRow r holes y b = some b') (hy : r.y ≤ y ∧ y < r.y + r.height) :
    regionBeat r holes y b' = true ∧ b ≤ b' ∧ ∀ x, inRegion r holes x y = true → b ≤ x / 4 → b' ≤ x / 4 := by
  unfold nextBeatInRow at h
  dsimp only at h
  split at h
  · next hin =>
    obtain rfl := Option.some.inj h
    have hle := le_skipHoles (holes := holes) (y := y) holes.length (max r.x (4 * b))
    have hleft := (Nat.le_max_left r.x (4 * b)).trans hle
    have hbeat := (Nat.le_max_right r.x (4 * b)).trans hle
    refine ⟨regionBeat_of_pixel ((inRegion_iff_covers _ _ _ _).2 ⟨(Rect.covers_iff _ _ _).2 ⟨hleft, hin, hy⟩, fun g hg =>
      not_covers_skipHoles (List.length_filter_le _ _) hg⟩), by omega, fun x hx hb => ?_⟩
    exact Nat.div_le_div_right (skipHoles_le_of_pixel hx hb)
  · cases h

end NextBeatInRow

/-! ### The next region beat of a rectangle -/

/-- The sweep has passed a pixel when it stands at a row and beat. -/
def Passed (row beat x y : Nat) : Prop := y < row ∨ (y = row ∧ x / 4 < beat)

/-- A region beat at or after a row and beat, with no region pixel of the rectangle between. -/
structure NextAt (r : Rect) (holes : List Rect) (row beat row' beat' : Nat) : Prop where
  region : regionBeat r holes row' beat' = true
  forward : row < row' ∨ (row = row' ∧ beat ≤ beat')
  least : ∀ x y, inRegion r holes x y = true → Passed row beat x y ∨ row' < y ∨ (row' = y ∧ beat' ≤ x / 4)

section NextBeat
variable {r : Rect} {holes : List Rect}

theorem nextBeat_none {n row beat : Nat} (hn : n = r.y + r.height - row) (h : nextBeat r holes n row beat = none) {x y : Nat}
    (hx : inRegion r holes x y = true) : Passed row beat x y := by
  have hrow := (Rect.covers_iff r x y).1 ((inRegion_iff_covers r holes x y).1 hx).1
  induction n generalizing row beat with
  | zero => exact .inl (by omega)
  | succ n ih =>
    unfold nextBeat at h
    split at h
    · cases h
    · next hnone =>
      obtain hlt | ⟨rfl, hbeat⟩ := ih (by omega) h
      · obtain hlt | rfl := Nat.lt_succ_iff_lt_or_eq.1 hlt
        · exact .inl hlt
        · exact .inr ⟨rfl, nextBeatInRow_none hnone hx⟩
      · exact absurd hbeat (Nat.not_lt_zero _)

theorem nextBeat_some {n row beat row' beat' : Nat} (hn : n = r.y + r.height - row) (hrow : r.y ≤ row)
    (h : nextBeat r holes n row beat = some (row', beat')) : NextAt r holes row beat row' beat' := by
  induction n generalizing row beat with
  | zero => cases h
  | succ n ih =>
    unfold nextBeat at h
    split at h
    · next b hsome =>
      obtain ⟨rfl, rfl⟩ := Prod.mk.inj (Option.some.inj h)
      obtain ⟨hregion, hforward, hleast⟩ := nextBeatInRow_some hsome ⟨hrow, by omega⟩
      refine ⟨hregion, .inr ⟨rfl, hforward⟩, fun x y hx => ?_⟩
      obtain hlt | rfl | hgt := Nat.lt_trichotomy y row
      · exact .inl (.inl hlt)
      · obtain hbefore | hafter := Nat.lt_or_ge (x / 4) beat
        · exact .inl (.inr ⟨rfl, hbefore⟩)
        · exact .inr (.inr ⟨rfl, hleast x hx hafter⟩)
      · exact .inr (.inl hgt)
    · next hnone =>
      obtain ⟨hregion, hforward, hleast⟩ := ih (by omega) (by omega) h
      refine ⟨hregion, .inl (by omega), fun x y hx => ?_⟩
      obtain (hlt | ⟨rfl, hbeat⟩) | hafter := hleast x y hx
      · obtain hlt | rfl := Nat.lt_succ_iff_lt_or_eq.1 hlt
        · exact .inl (.inl hlt)
        · exact .inl (.inr ⟨rfl, nextBeatInRow_none hnone hx⟩)
      · exact absurd hbeat (Nat.not_lt_zero _)
      · exact .inr hafter

end NextBeat

/-! ### The next region beat of the rectangles -/

/-- A rectangle without a region pixel. -/
def NoRegion (r : Rect) (holes : List Rect) : Prop := ∀ x y, inRegion r holes x y = false

theorem not_passed_first {r : Rect} {holes : List Rect} {x y : Nat} (hx : inRegion r holes x y = true) : ¬Passed r.y 0 x y := by
  have hrow := (Rect.covers_iff r x y).1 ((inRegion_iff_covers r holes x y).1 hx).1
  rintro (hlt | ⟨-, hlt⟩)
  · omega
  · exact Nat.not_lt_zero _ hlt

theorem firstCursor_none {holes rects : List Rect} {i : Nat} (h : firstCursor holes i rects = none) {r : Rect} (hr : r ∈ rects) :
    NoRegion r holes := by
  induction rects generalizing i with
  | nil => cases hr
  | cons q rest ih =>
    unfold firstCursor at h
    split at h
    · cases h
    · next hnone =>
      obtain rfl | hr := List.mem_cons.1 hr
      · exact fun x y => Bool.eq_false_iff.2 fun hx => not_passed_first hx (nextBeat_none (by omega) hnone hx)
      · exact ih h hr

/-- The first region beat of rectangles from index i on. -/
theorem firstCursor_some {holes rects : List Rect} {i : Nat} {c : Cursor} (h : firstCursor holes i rects = some c) :
    ∃ j r, c.rect = i + j ∧ rects[j]? = some r ∧ NextAt r holes r.y 0 c.row c.beat ∧
      ∀ k q, k < j → rects[k]? = some q → NoRegion q holes := by
  induction rects generalizing i with
  | nil => cases h
  | cons r rest ih =>
    unfold firstCursor at h
    split at h
    · next row beat hsome =>
      obtain rfl := Option.some.inj h
      exact ⟨0, r, rfl, rfl, nextBeat_some (by omega) (Nat.le_refl _) hsome, fun k q hk => absurd hk (Nat.not_lt_zero k)⟩
    · next hnone =>
      obtain ⟨j, q, hrect, hq, hnext, hbefore⟩ := ih h
      refine ⟨j + 1, q, by omega, hq, hnext, fun k p hk hp => ?_⟩
      cases k with
      | zero =>
        obtain rfl := Option.some.inj hp
        exact fun x y => Bool.eq_false_iff.2 fun hx => not_passed_first hx (nextBeat_none (by omega) hnone hx)
      | succ k => exact hbefore k p (Nat.lt_of_succ_lt_succ hk) hp

theorem NextAt.least_of_first {r : Rect} {holes : List Rect} {row beat : Nat} (h : NextAt r holes r.y 0 row beat) {x y : Nat}
    (hx : inRegion r holes x y = true) : row < y ∨ (row = y ∧ beat ≤ x / 4) := (h.least x y hx).resolve_left (not_passed_first hx)

theorem firstCursor_none_iff (holes rects : List Rect) (i : Nat) : firstCursor holes i rects = none ↔ ∀ r ∈ rects, NoRegion r holes := by
  refine ⟨fun h r hr => firstCursor_none h hr, fun h => ?_⟩
  cases hc : firstCursor holes i rects with
  | none => rfl
  | some c =>
    obtain ⟨j, r, -, hr, hnext, -⟩ := firstCursor_some hc
    obtain ⟨x, -, hx⟩ := exists_pixel_of_regionBeat hnext.region
    exact absurd hx (Bool.eq_false_iff.1 (h r (List.mem_of_getElem? hr) x c.row))

section CursorFrom
variable {rects holes : List Rect} {c : Cursor} {beat : Nat} {r : Rect} (hr : rects[c.rect]? = some r)
include hr

theorem cursorFrom_of_some {y b : Nat} (h : nextBeat r holes (r.y + r.height - c.row) c.row beat = some (y, b)) :
    cursorFrom rects holes c beat = some { rect := c.rect, row := y, beat := b } := by
  obtain ⟨hlt, hget⟩ := List.getElem?_eq_some_iff.1 hr
  rw [cursorFrom, List.drop_eq_getElem_cons hlt, hget]
  simp only [h]

theorem cursorFrom_of_none (h : nextBeat r holes (r.y + r.height - c.row) c.row beat = none) :
    cursorFrom rects holes c beat = firstCursor holes (c.rect + 1) (rects.drop (c.rect + 1)) := by
  obtain ⟨hlt, hget⟩ := List.getElem?_eq_some_iff.1 hr
  rw [cursorFrom, List.drop_eq_getElem_cons hlt, hget]
  simp only [h]

theorem cursorFrom_none (h : cursorFrom rects holes c beat = none) :
    (∀ x y, inRegion r holes x y = true → Passed c.row beat x y) ∧
      ∀ i q, c.rect < i → rects[i]? = some q → NoRegion q holes := by
  cases hnext : nextBeat r holes (r.y + r.height - c.row) c.row beat with
  | some place =>
    rw [cursorFrom_of_some hr hnext] at h
    cases h
  | none =>
    rw [cursorFrom_of_none hr hnext] at h
    refine ⟨fun x y hx => nextBeat_none rfl hnext hx, fun i q hi hq => firstCursor_none h ?_⟩
    refine List.mem_of_getElem? (i := i - (c.rect + 1)) ?_
    rw [List.getElem?_drop, show c.rect + 1 + (i - (c.rect + 1)) = i by omega]
    exact hq

/-- The sweep goes on in the cursor's rectangle, or in the first one after it that has a region pixel. -/
theorem cursorFrom_some (hrow : r.y ≤ c.row) {d : Cursor} (h : cursorFrom rects holes c beat = some d) :
    (d.rect = c.rect ∧ NextAt r holes c.row beat d.row d.beat) ∨
      (c.rect < d.rect ∧ (∀ x y, inRegion r holes x y = true → Passed c.row beat x y) ∧
        (∀ i p, c.rect < i → i < d.rect → rects[i]? = some p → NoRegion p holes) ∧
        ∃ q, rects[d.rect]? = some q ∧ NextAt q holes q.y 0 d.row d.beat) := by
  cases hat : nextBeat r holes (r.y + r.height - c.row) c.row beat with
  | some place =>
    rw [cursorFrom_of_some hr hat] at h
    obtain rfl := Option.some.inj h
    exact .inl ⟨rfl, nextBeat_some rfl hrow hat⟩
  | none =>
    rw [cursorFrom_of_none hr hat] at h
    obtain ⟨j, q, hrect, hq, hnext, hbefore⟩ := firstCursor_some h
    rw [List.getElem?_drop, ← hrect] at hq
    refine .inr ⟨by omega, fun x y hx => nextBeat_none rfl hat hx, fun i p hi hd hp => ?_, q, hq, hnext⟩
    refine hbefore (i - (c.rect + 1)) p (by omega) ?_
    rw [List.getElem?_drop, show c.rect + 1 + (i - (c.rect + 1)) = i by omega]
    exact hp

end CursorFrom
end Sys2Proof.Machine
end

section
/-! The fill engine at its head job (R138 to R142, R146 to R149): a job starts, a written burst moves it on, and it ends. -/

namespace Sys2Proof.Machine

/-! ### What the end of a step leaves of the fill engine -/

theorem State.requestGuard_jobs (s : State) (p : Plane) : s.fill.jobs <+: (s.requestGuard p).fill.jobs := by
  unfold State.requestGuard
  split
  · exact List.prefix_rfl
  · split
    · rw [State.report_fill]
    · exact List.prefix_append _ _

theorem State.unserved_jobs (s : State) (p : Posture) : s.fill.jobs <+: (s.unserved p).fill.jobs := by
  have hreport : (s.report .unserved).fill = s.fill := s.report_fill _
  unfold State.unserved State.guardFor
  rw [← hreport]
  split
  · exact List.prefix_rfl
  · split
    · exact List.prefix_rfl
    · split
      · exact State.requestGuard_jobs _ _
      · exact List.prefix_rfl

theorem State.reevaluate_jobs (s : State) : s.fill.jobs <+: s.reevaluate.fill.jobs := by
  have hwithdraw (p : Posture) : s.fill.jobs <+: (s.withdraw.unserved p).fill.jobs := State.unserved_jobs s.withdraw p
  unfold State.reevaluate
  split
  · exact List.prefix_rfl
  · split
    · exact List.prefix_rfl
    · exact List.prefix_rfl
    · exact s.unserved_jobs _
    · split
      · exact List.prefix_rfl
      · exact List.prefix_rfl
      · exact List.prefix_rfl
      · exact List.prefix_rfl
      · exact hwithdraw _
      · exact s.unserved_jobs _

theorem State.settleSwaps_jobs (n : Nat) (s : State) : s.fill.jobs <+: (State.settleSwaps n s).fill.jobs := by
  induction n generalizing s with
  | zero => exact List.prefix_rfl
  | succ n ih =>
    unfold State.settleSwaps
    split
    · exact List.prefix_rfl
    · next r _ =>
      have hdone : (s.swapDone r).fill = s.fill := State.report_fill _ _
      have hagain := (s.swapDone r).reevaluate_jobs
      rw [hdone] at hagain
      exact hagain.trans (ih _)

/-- The end of a step leaves the head jobs, the pause, the bindings' entries and the flags, and does to the burst in hand no more than
grant it. -/
structure FillEnds (s t : State) : Prop where
  jobs : s.fill.jobs <+: t.fill.jobs
  paused : t.fill.paused = s.fill.paused
  handEmpty : s.fill.burst = none → t.fill.burst = none
  hand : ∀ b, s.fill.burst = some b → ∃ g, t.fill.burst = some { b with granted := g }
  entry : ∀ p, t.planes.entry p = s.planes.entry p
  flags : FlagsStay s t

theorem FillEnds.trans {s t u : State} (h : FillEnds s t) (k : FillEnds t u) : FillEnds s u := by
  refine ⟨h.jobs.trans k.jobs, k.paused.trans h.paused, fun hnone => k.handEmpty (h.handEmpty hnone), fun b hb => ?_,
    fun p => (k.entry p).trans (h.entry p), h.flags.trans k.flags⟩
  obtain ⟨g, hg⟩ := h.hand b hb
  obtain ⟨g', hg'⟩ := k.hand _ hg
  exact ⟨g', hg'⟩

theorem FillEnds.of_eq {s t : State} (hfill : t.fill = s.fill) (hplanes : t.planes = s.planes) (hflags : FlagsStay s t) : FillEnds s t :=
  ⟨hfill ▸ List.prefix_rfl, by rw [hfill], fun h => by rw [hfill, h], fun b hb => ⟨b.granted, by rw [hfill, hb]⟩,
    fun p => by rw [hplanes], hflags⟩

theorem State.settleSwaps_fillEnds (n : Nat) (s : State) : FillEnds s (State.settleSwaps n s) := by
  obtain ⟨hburst, hpaused, -⟩ := State.settleSwaps_fill n s
  exact ⟨State.settleSwaps_jobs n s, hpaused, fun h => hburst.trans h, fun b hb => ⟨b.granted, hburst.trans hb⟩,
    State.entry_of_beside (State.settleSwaps_steps n s).beside, State.settleSwaps_flagsStay n s⟩

theorem State.retryInsert_fillEnds (s : State) : FillEnds s s.retryInsert :=
  .of_eq s.retryInsert_fill s.retryInsert_planes s.retryInsert_flagsStay

theorem State.grant_hand {s : State} {b : FillBurst} (h : s.fill.burst = some b) (x : Source) :
    ∃ g, (s.grant x).fill.burst = some { b with granted := g } := by
  cases x with
  | record => exact ⟨b.granted, h⟩
  | fill =>
    refine ⟨true, ?_⟩
    simp only [State.grant, State.grantFill, h]
    exact rfl
  | _ =>
    refine ⟨b.granted, ?_⟩
    simp only [State.grant, State.grantFetch, State.grantPriority, State.grantPath, State.grantOrdinary]
    split <;> exact h

theorem State.grant_fillEnds (s : State) (x : Source) : FillEnds s (s.grant x) := by
  have h := s.grant_offGrant x
  exact ⟨⟨[], by rw [List.append_nil]; exact (congrArg OffGrant.jobs h).symm⟩, congrArg OffGrant.paused h,
    fun hnone => State.grant_burst_none hnone x,
    fun b hb => State.grant_hand hb x, fun p => congrArg (fun g : OffGrant => g.planes.entry p) h, .of_eq (congrArg OffGrant.flags h)⟩

theorem State.choicePoint_fillEnds (s : State) : FillEnds s s.choicePoint := by
  have hstill : FillEnds s s := .of_eq rfl rfl (.of_eq rfl)
  unfold State.choicePoint
  split
  · exact hstill
  · unfold State.grantPick
    split
    · exact hstill
    · exact s.grant_fillEnds _

theorem State.completionChoice_fillEnds (before s : State) : FillEnds s (State.completionChoice before s) := by
  unfold State.completionChoice
  split
  · exact (s.grant_fillEnds _).trans (.of_eq rfl rfl (.of_eq rfl))
  · exact s.choicePoint_fillEnds.trans (.of_eq rfl rfl (.of_eq rfl))

theorem State.conclude_fillEnds (s : State) : FillEnds s s.conclude :=
  ((State.settleSwaps_fillEnds 2 s).trans (State.retryInsert_fillEnds _)).trans
    ((State.choicePoint_fillEnds _).trans (State.retryInsert_fillEnds _))

theorem State.concludeCompletion_fillEnds (before s : State) : FillEnds s (State.concludeCompletion before s) := by
  have hend : FillEnds s (State.completionChoice before (State.settleSwaps 2 s).retryInsert).retryInsert :=
    ((State.settleSwaps_fillEnds 2 s).trans (State.retryInsert_fillEnds _)).trans
      ((State.completionChoice_fillEnds before _).trans (State.retryInsert_fillEnds _))
  obtain ⟨b, n, horder⟩ := State.orderOffers_eq before (State.completionChoice before (State.settleSwaps 2 s).retryInsert).retryInsert
  rw [State.concludeCompletion, horder]
  exact hend.trans (.of_eq rfl rfl (.of_eq rfl))

theorem FillEnds.head {s t : State} (h : FillEnds s t) {job : FillJob} {rest : List FillJob} (hjobs : s.fill.jobs = job :: rest) :
    t.fill.jobs.head? = some job := by
  obtain ⟨more, hmore⟩ := h.jobs
  rw [← hmore, hjobs]
  rfl

theorem FillEnds.take {s t : State} (h : FillEnds s t) {rest : List FillJob} (hjobs : s.fill.jobs = rest) :
    t.fill.jobs.take rest.length = rest := by
  obtain ⟨more, hmore⟩ := h.jobs
  rw [← hmore, hjobs, List.take_left]

/-! ### Bursts and the end of a job -/

/-- The burst the engine builds at a cursor (R141). -/
def State.burstAt (s : State) (job : FillJob) (r : Rect) (c : Cursor) : FillBurst where
  addr := planeBase s.fb job.plane + c.row * 9600 + c.beat * 16
  beats := fillBeats (s.boundSpine job.plane) r job.holes (job.colour.getD (Quad.replicate 0)) c.row c.beat
    (runLength r job.holes c.row 16 c.beat)
  granted := false
  cancelled := false

theorem State.buildBurst_burst {s : State} {job : FillJob} {c : Cursor} {r : Rect} (hr : job.rects[c.rect]? = some r) :
    (s.buildBurst job c).fill = { s.fill with burst := some (s.burstAt job r c) } := by
  rw [State.buildBurst_fill, List.getD_eq_getElem?_getD, hr]
  exact rfl

theorem fillBeats_get {spine : Option Spine} {r : Rect} {holes : List Rect} {colour : Colour} {y b n j k : Nat} (hj : j < n) (hk : k < 4)
    (d : MaskedBeat) :
    ((fillBeats spine r holes colour y b n).getD j d).get k =
      if inRegion r holes (4 * (b + j) + k) y = true then gainLane spine (4 * (b + j) + k) (colour.map some) else Quad.replicate none := by
  rw [List.getD_eq_getElem _ _ (by simpa [fillBeats] using hj)]
  simp only [fillBeats, List.getElem_map, List.getElem_range]
  exact Quad.get_ofFn _ hk

theorem fillBeats_length (spine : Option Spine) (r : Rect) (holes : List Rect) (colour : Colour) (y b n : Nat) :
    (fillBeats spine r holes colour y b n).length = n := by simp [fillBeats]

theorem State.burstAt_length (s : State) (job : FillJob) (r : Rect) (c : Cursor) :
    (s.burstAt job r c).beats.length = runLength r job.holes c.row 16 c.beat := fillBeats_length _ _ _ _ _ _ _

/-- Each pixel of a burst: the job's colour, gained, in a region lane, and nothing elsewhere. -/
theorem State.burstAt_get {s : State} {job : FillJob} {r : Rect} {c : Cursor} {colour : Colour} (hcolour : job.colour = some colour)
    {n k : Nat} (hn : n < (s.burstAt job r c).beats.length) (hk : k < 4) (d : MaskedBeat) :
    ((s.burstAt job r c).beats.getD n d).get k =
      if inRegion r job.holes (4 * (c.beat + n) + k) c.row = true then
        gainLane (s.boundSpine job.plane) (4 * (c.beat + n) + k) (colour.map some)
      else Quad.replicate none := by
  rw [State.burstAt_length] at hn
  rw [State.burstAt, hcolour]
  exact fillBeats_get hn hk d

theorem State.completeJob_flag (s : State) (job : FillJob) (rest : List FillJob) : (s.completeJob job rest).flag .fillDone = true := by
  have hdone : ((s.setJobs rest).report .fillDone).flag .fillDone = true := by rw [State.report_flag]; rfl
  unfold State.completeJob
  dsimp only
  split
  · exact hdone
  · exact hdone
  · exact hdone

/-- R146: a completed BACKGROUND job clears its plane's mark. -/
theorem State.completeJob_mark (s : State) {job : FillJob} (rest : List FillJob) (h : job.kind = .background) :
    ((s.completeJob job rest).planes.entry job.plane).backgroundPending = false := by
  simp only [State.completeJob, h, State.setPending]
  cases job.plane <;> rfl

/-! ### The job starts (R138) -/

theorem FillJob.read_host {job : FillJob} (h : job.kind = .host) (layout : Option Layout) : job.read layout = job := by
  cases layout <;> simp [FillJob.read, h]

theorem FillJob.read_background {job : FillJob} (h : job.kind = .background) (l : Layout) :
    job.read (some l) =
      { job with
        colour := some l.background
        rects := [{ x := 0, y := 0, width := 2400, height := 1800 }]
        holes := l.views.map View.panelRect } := by
  simp only [FillJob.read, h]
  exact rfl

theorem FillJob.read_guard {job : FillJob} (h : job.kind = .guard) {l : Layout} {g : Guard} (hg : l.guard = some g) :
    job.read (some l) = { job with colour := some g.colour, rects := g.rects } := by
  simp only [FillJob.read, h, hg]

section FillJobStart
variable {s : State} {job : FillJob} {rest : List FillJob} (hjobs : s.fill.jobs = job :: rest) (hcursor : job.cursor = none)
  (hburst : s.fill.burst = none) (hmay : s.fillMayWork = true)
include hjobs hcursor hburst hmay

theorem exec_fillJobStart : exec .fillJobStart s = .next (s.startJob job rest).conclude := by
  have htake : s.takeUpJob = s.startJob job rest := by
    rw [State.takeUpJob, if_pos (by rw [hmay, hburst]; rfl), hjobs]
    simp only [hcursor]
  rw [← htake]
  exact exec_of_concluded rfl

/-- R138: a job whose region holds a pixel starts with the burst at its first region beat. -/
theorem fillJobStart_begins {read : FillJob} {colour : Colour} {c : Cursor} {r : Rect} (hread : job.read (s.boundLayout job.plane) = read)
    (hcolour : read.colour = some colour) (hfirst : firstCursor read.holes 0 read.rects = some c) (hr : read.rects[c.rect]? = some r) :
    ∃ t b, exec .fillJobStart s = .next t ∧ t.fill.burst = some b ∧
      t.fill.jobs.head? = some { read with cursor := some c, beatsWritten := 0 } ∧
      b.addr = planeBase s.fb job.plane + c.row * 9600 + c.beat * 16 ∧
      b.beats.length = runLength r read.holes c.row 16 c.beat ∧
      ∀ n k, n < b.beats.length → k < 4 →
        (b.beats.getD n Collector.emptyBeat).get k =
          (if inRegion r read.holes (4 * (c.beat + n) + k) c.row = true
            then gainLane (s.boundSpine job.plane) (4 * (c.beat + n) + k) (colour.map some)
            else Quad.replicate none) := by
  have hplane : read.plane = job.plane := by rw [← hread, FillJob.read_plane]
  obtain ⟨begun, hbegun⟩ : ∃ begun : FillJob, begun = { read with cursor := some c, beatsWritten := 0 } := ⟨_, rfl⟩
  have hstart : s.startJob job rest = (s.setJobs (begun :: rest)).buildBurst begun c := by
    rw [State.startJob, hread]
    simp only [hfirst, hbegun]
  have hfill : (s.startJob job rest).fill = { s.fill with jobs := begun :: rest, burst := some (s.burstAt begun r c) } := by
    rw [hstart, State.buildBurst_burst (by rw [hbegun]; exact hr)]
    exact rfl
  have hends := (s.startJob job rest).conclude_fillEnds
  obtain ⟨g, hg⟩ := hends.hand (s.burstAt begun r c) (by rw [hfill])
  refine ⟨_, _, exec_fillJobStart hjobs hcursor hburst hmay, hg, ?_, ?_, ?_, fun n k hn hk => ?_⟩
  · rw [hends.head (by rw [hfill]), hbegun]
  · rw [← hplane]
    subst hbegun
    rfl
  · rw [State.burstAt_length, hbegun]
  · rw [← hplane]
    subst hbegun
    exact State.burstAt_get hcolour hn hk _

/-- R146: a job whose region holds no pixel completes at once. -/
theorem fillJobStart_empty {read : FillJob} (hread : job.read (s.boundLayout job.plane) = read)
    (hfirst : firstCursor read.holes 0 read.rects = none) :
    ∃ t, exec .fillJobStart s = .next t ∧ t.flag .fillDone = true ∧ t.fill.jobs.take rest.length = rest ∧ t.fill.burst = none ∧
      (job.kind = .background → (t.planes.entry job.plane).backgroundPending = false) := by
  have hstart : s.startJob job rest = s.completeJob read rest := by
    rw [State.startJob, hread]
    simp only [hfirst]
  have hfill : (s.startJob job rest).fill = { s.fill with jobs := rest } := by rw [hstart, State.completeJob_fill]
  have hends := (s.startJob job rest).conclude_fillEnds
  refine ⟨_, exec_fillJobStart hjobs hcursor hburst hmay, hends.flags _ (by rw [hstart]; exact s.completeJob_flag _ _),
    hends.take (by rw [hfill]), hends.handEmpty (by rw [hfill]; exact hburst), fun hkind => ?_⟩
  rw [hends.entry, hstart]
  have hplane : read.plane = job.plane := by rw [← hread, FillJob.read_plane]
  rw [← hplane]
  exact s.completeJob_mark rest (by rw [← hread, FillJob.read_kind, hkind])

end FillJobStart
end Sys2Proof.Machine
end

section
/-! The rows of the fill engine: FILL_JOB_START (R138, R139) and the written fill burst (R142, R146, R147, R149). -/

namespace Sys2Proof.Machine

/-! ### One rectangle without holes -/

theorem regionBeat_plain_iff {r : Rect} {y b : Nat} (hy : r.y ≤ y ∧ y < r.y + r.height) (hwidth : 0 < r.width) :
    regionBeat r [] y b = true ↔ r.x / 4 ≤ b ∧ b ≤ (r.x + r.width - 1) / 4 := by
  rw [regionBeat_iff]
  simp only [inRegion_iff, List.not_mem_nil, false_imp_iff, implies_true, and_true]
  constructor
  · rintro ⟨k, hk, hleft, hright, -⟩
    omega
  · rintro ⟨hleft, hright⟩
    refine ⟨max r.x (4 * b) - 4 * b, ?_, ?_⟩ <;> omega

/-- The sweep of one rectangle starts in its top left beat. -/
theorem firstCursor_plain {r : Rect} (hwidth : 0 < r.width) (hheight : 0 < r.height) :
    firstCursor [] 0 [r] = some { rect := 0, row := r.y, beat := r.x / 4 } := by
  obtain ⟨n, hn⟩ := Nat.exists_eq_succ_of_ne_zero hheight.ne'
  have hrow : nextBeatInRow r [] r.y 0 = some (r.x / 4) := by
    simp [nextBeatInRow, skipHoles, hwidth]
  simp only [firstCursor, hn, nextBeat, hrow]

/-- The first run of one rectangle: its beats of the row, 16 at most. -/
theorem runLength_plain {r : Rect} (hwidth : 0 < r.width) (hheight : 0 < r.height) :
    runLength r [] r.y 16 (r.x / 4) = min 16 ((r.x + r.width - 1) / 4 - r.x / 4 + 1) := by
  have hy : r.y ≤ r.y ∧ r.y < r.y + r.height := ⟨Nat.le_refl _, by omega⟩
  have hle := runLength_le r [] r.y 16 (r.x / 4)
  have hend : runLength r [] r.y 16 (r.x / 4) < 16 → ¬r.x / 4 + runLength r [] r.y 16 (r.x / 4) ≤ (r.x + r.width - 1) / 4 := by
    intro hlt hin
    have hbeat := (regionBeat_plain_iff hy hwidth).2 ⟨Nat.le_add_right _ _, hin⟩
    exact Bool.eq_false_iff.1 (regionBeat_runLength_end r [] r.y hlt) hbeat
  obtain hzero | hpos := Nat.eq_zero_or_pos (runLength r [] r.y 16 (r.x / 4))
  · omega
  · have hlast := ((regionBeat_plain_iff hy hwidth).1 (regionBeat_of_lt_runLength r [] r.y (Nat.sub_one_lt_of_lt hpos))).2
    omega

/-- Settles O45: a job read from its layout starts at the first cursor of its sweep, or ends where there is none; the sweep by the next
region beat of each row. -/
theorem fillJobsStart : Obligations.FillJobsStart := by
  refine ⟨?host, ?background, ?read, ?beats, ?sweep⟩
  case host =>
    intro s job rest r colour hjobs hkind hcursor hrects hholes hcolour hwidth hheight hburst hmay
    have hread := FillJob.read_host hkind (s.boundLayout job.plane)
    have hfirst : firstCursor job.holes 0 job.rects = some { rect := 0, row := r.y, beat := r.x / 4 } := by
      rw [hholes, hrects, firstCursor_plain hwidth hheight]
    obtain ⟨t, b, hexec, hb, hhead, haddr, hlength, hget⟩ := fillJobStart_begins hjobs hcursor hburst hmay hread hcolour hfirst
      (r := r) (by rw [hrects]; rfl)
    rw [hholes] at hlength
    refine ⟨t, b, hexec, hb, hhead, haddr, hlength.trans (runLength_plain hwidth hheight), fun n k hn hk => (hget n k hn hk).trans ?_⟩
    refine if_congr ?_ rfl rfl
    rw [hholes, inRegion_iff]
    simp only [List.not_mem_nil, false_imp_iff, implies_true, and_true]
    omega
  case background =>
    intro s job rest l v hjobs hkind hcursor hlayout hviews hpanel hburst hmay
    have hread := FillJob.read_background hkind l
    rw [← hlayout] at hread
    obtain ⟨t, hexec, hflag, hrest, hnone, hmark⟩ := fillJobStart_empty hjobs hcursor hburst hmay hread
      ((firstCursor_none_iff _ _ _).2 fun r hr x y => by
        obtain rfl := List.mem_singleton.1 hr
        simp [hviews, hpanel, inRegion])
    exact ⟨t, hexec, hflag, hrest, hmark hkind, hnone⟩
  case read =>
    intro s job read rest colour hjobs hcursor hholes hcases hcolour hburst hmay
    have hread : job.read (s.boundLayout job.plane) = read := by
      obtain ⟨hkind, rfl⟩ | ⟨hkind, l, hlayout, rfl⟩ | ⟨hkind, l, g, hlayout, hguard, rfl⟩ := hcases
      · exact FillJob.read_host hkind _
      · rw [hlayout, FillJob.read_background hkind]
      · rw [hlayout, FillJob.read_guard hkind hguard]
    exact ⟨fun c r hfirst hr => fillJobStart_begins hjobs hcursor hburst hmay hread hcolour hfirst hr,
      fun hfirst => fillJobStart_empty hjobs hcursor hburst hmay hread hfirst⟩
  case beats =>
    intro r holes x y b
    exact ⟨inRegion_iff r holes x y, regionBeat_iff r holes y b, runLength_le r holes y 16 b,
      fun j hj => regionBeat_of_lt_runLength r holes y hj, fun hn => regionBeat_runLength_end r holes y hn⟩
  case sweep =>
    intro rects holes
    refine ⟨firstCursor_none_iff holes rects 0, fun c hc => ?_, fun c beat r hr hrow => ?_⟩
    · obtain ⟨j, r, hrect, hr, hnext, hbefore⟩ := firstCursor_some hc
      rw [Nat.zero_add] at hrect
      subst hrect
      exact ⟨r, hr, hnext.region, fun x y hx => hnext.least_of_first hx, hbefore⟩
    · refine ⟨fun hnone => cursorFrom_none hr hnone, fun d hd => ?_⟩
      obtain ⟨hrect, hnext⟩ | ⟨hlater, hpassed, hbetween, q, hq, hnext⟩ := cursorFrom_some hr hrow hd
      · exact ⟨r, by rw [hrect]; exact hr, hnext.region, hrect.ge, fun _ => ⟨hnext.forward, hnext.least⟩,
          fun hlt => absurd hlt (hrect ▸ Nat.lt_irrefl _)⟩
      · exact ⟨q, hq, hnext.region, hlater.le, fun heq => absurd heq hlater.ne',
          fun _ => ⟨hpassed, hbetween, fun x y hx => hnext.least_of_first hx⟩⟩

/-! ### A fill burst has been written (R142, R149) -/

/-- The engine's hand is empty, and a pause asked takes effect. -/
theorem State.settlePause_eq (s : State) :
    s.settlePause = { s with fill := { s.fill with paused := s.fill.paused || s.fill.pauseAsked, pauseAsked := false } } := by
  unfold State.settlePause
  obtain hasked | hasked := Bool.eq_false_or_eq_true s.fill.pauseAsked
  · simp [hasked]
  · simp only [hasked, Bool.or_false]
    rw [if_neg Bool.false_ne_true, ← hasked]

theorem State.completeFlight_fill {s : State} {f : Flight} (horigin : f.origin = .fill) (h : f.wanted = true) :
    s.completeFlight f = State.fillWritten { s with port := none, mem := s.landed f } := by
  rw [State.completeFlight, State.reportCompletion, if_pos h, horigin]

theorem State.fillWritten_cancelled {s : State} {b : FillBurst} (hburst : s.fill.burst = some b) (h : b.cancelled = true) :
    s.fillWritten = State.settlePause { s with fill := { s.fill with burst := none } } := by
  rw [State.fillWritten, hburst]
  exact if_pos h

section Advanced
variable {s : State} {b : FillBurst} {job : FillJob} {rest : List FillJob} {c : Cursor} (hburst : s.fill.burst = some b)
  (hcancelled : b.cancelled = false) (hjobs : s.fill.jobs = job :: rest) (hcursor : job.cursor = some c)
include hburst hcancelled hjobs hcursor

theorem State.fillWritten_done (hend : cursorFrom job.rects job.holes c (c.beat + b.beats.length) = none) :
    s.fillWritten =
      (State.completeJob { s with fill := { s.fill with burst := none } }
        { job with beatsWritten := job.beatsWritten + b.beats.length } rest).settlePause := by
  rw [State.fillWritten, hburst]
  dsimp only
  rw [if_neg (Bool.eq_false_iff.1 hcancelled), hjobs]
  simp only [State.jobAdvanced, hcursor, hend]

/-- R142: the head job with its beats raised and its cursor moved. -/
def FillJob.advanced (job : FillJob) (n : Nat) (c : Cursor) : FillJob :=
  { job with cursor := some c, beatsWritten := job.beatsWritten + n }

theorem State.fillWritten_next {c' : Cursor} (hnext : cursorFrom job.rects job.holes c (c.beat + b.beats.length) = some c') :
    s.fillWritten =
      if s.fillMayWork then
        (State.settlePause { s with fill := { s.fill with burst := none, jobs := job.advanced b.beats.length c' :: rest } }).buildBurst
          (job.advanced b.beats.length c') c'
      else State.settlePause { s with fill := { s.fill with burst := none, jobs := job.advanced b.beats.length c' :: rest } } := by
  have hmay : (State.settlePause
      { s with fill := { s.fill with burst := none, jobs := job.advanced b.beats.length c' :: rest } }).fillMayWork = s.fillMayWork := by
    rw [State.settlePause_eq]
    simp [State.fillMayWork, Bool.and_assoc]
  rw [State.fillWritten, hburst]
  dsimp only
  rw [if_neg (Bool.eq_false_iff.1 hcancelled), hjobs, ← hmay]
  simp only [State.jobAdvanced, hcursor, hnext]
  exact rfl

end Advanced

/-- Settles O31: the burst written is told to the engine, whose job moves by the sweep of its region; the step's end leaves what the engine
has decided. -/
theorem writtenFillBurstMovesTheJob : Obligations.WrittenFillBurstMovesTheJob := by
  refine ⟨?cancelled, ?moved⟩
  case cancelled =>
    intro s f b data hport horigin hwanted hpayload hburst hcancelled
    have hwrite : f.payload.isWrite = true := by rw [hpayload]; rfl
    have hlanded : s.landed f = Memory.writeBeats f.addr data s.mem := by rw [State.landed, hpayload]
    rw [exec_burstComplete hport (Flight.mayComplete_of_write hwrite), State.completeFlight_fill horigin hwanted,
      State.fillWritten_cancelled (s := { s with port := none, mem := s.landed f }) hburst hcancelled, State.settlePause_eq, hlanded]
  case moved =>
    intro s f b job rest c hport horigin hwanted hwrite hburst hcancelled hjobs hcursor
    obtain ⟨u, hu⟩ : ∃ u : State, u = { s with port := none, mem := s.landed f } := ⟨_, rfl⟩
    have huburst : u.fill.burst = some b := by rw [hu]; exact hburst
    have hujobs : u.fill.jobs = job :: rest := by rw [hu]; exact hjobs
    have hends := State.concludeCompletion_fillEnds s u.fillWritten
    refine ⟨State.concludeCompletion s u.fillWritten, ?_, fun c' hnext => ?_, fun hend => ?_⟩
    · rw [exec_burstComplete hport (Flight.mayComplete_of_write hwrite), State.completeFlight_fill horigin hwanted, hu]
    · have hwritten := State.fillWritten_next huburst hcancelled hujobs hcursor hnext
      have hwritten_jobs : u.fillWritten.fill.jobs = job.advanced b.beats.length c' :: rest := by
        rw [hwritten, State.settlePause_eq]
        split
        · rw [State.buildBurst_fill]
        · rfl
      refine ⟨hends.head hwritten_jobs, fun hasked => ?_, fun hmay r hr => ?_⟩
      · have hrests : s.fillMayWork = false := by simp [State.fillMayWork, hasked]
        rw [show u.fillMayWork = s.fillMayWork by rw [hu]; rfl, hrests, if_neg Bool.false_ne_true, State.settlePause_eq] at hwritten
        refine ⟨hends.paused.trans ?_, hends.handEmpty (by rw [hwritten])⟩
        rw [hwritten, hu]
        simp [hasked]
      · rw [show u.fillMayWork = s.fillMayWork by rw [hu]; rfl, hmay, if_pos rfl] at hwritten
        obtain ⟨g, hg⟩ := hends.hand (u.burstAt (job.advanced b.beats.length c') r c') (by
          rw [hwritten, State.buildBurst_burst (job := job.advanced b.beats.length c') hr, State.settlePause_eq]
          exact rfl)
        exact ⟨_, hg, by rw [hu]; exact rfl, by rw [hu]; exact rfl⟩
    · have hwritten := State.fillWritten_done huburst hcancelled hujobs hcursor hend
      have hfill : u.fillWritten.fill.jobs = rest := by rw [hwritten, State.settlePause_eq, State.completeJob_fill]
      refine ⟨hends.flags _ ?_, hends.take hfill, fun hkind => ?_⟩
      · rw [hwritten, State.settlePause_eq]
        exact State.completeJob_flag _ _ _
      · rw [hends.entry, hwritten, State.settlePause_eq]
        exact State.completeJob_mark (job := { job with beatsWritten := job.beatsWritten + b.beats.length }) _ rest hkind
end Sys2Proof.Machine
end

section
/-! The chain walk (R30 to R36): the checks of a record in the terms of its bytes. -/

namespace Sys2Proof.Machine

/-! ### Bytes of a record -/

theorem getLsbD_getD (bytes : List Byte) (i k : Nat) : (bytes.getD i 0).getLsbD k = decide (byteAt bytes i / 2 ^ k % 2 = 1) :=
  Nat.testBit_eq_decide_div_mod_eq

/-- The kind code of a record (R29). -/
def RecordKind.code : RecordKind → Nat
  | .head => 1
  | .view => 2
  | .spine => 3
  | .guard => 4

theorem kindOf_code (k : RecordKind) : kindOf k.code = some k := by cases k <;> rfl

theorem kindOf_eq_some {n : Nat} {k : RecordKind} (h : kindOf n = some k) : n = k.code := by
  unfold kindOf at h
  split at h
  · obtain rfl := Option.some.inj h; rfl
  · obtain rfl := Option.some.inj h; rfl
  · obtain rfl := Option.some.inj h; rfl
  · obtain rfl := Option.some.inj h; rfl
  · cases h

section CheckRecord
variable {l : Load} {bytes : List Byte}

theorem checkRecord_of_kind_ne (h : byteAt bytes 0 ≠ l.kind.code) : (checkRecord l bytes).2 = .fail .badRecord := by
  rw [checkRecord, if_neg fun hkind => h (kindOf_eq_some hkind)]

variable (hkind : byteAt bytes 0 = l.kind.code)
include hkind

theorem checkRecord_of_error {r : Result} (h : checkFields l.kind l.staging bytes = .error r) : (checkRecord l bytes).2 = .fail r := by
  rw [checkRecord, if_pos (by rw [hkind, kindOf_code]), h]

theorem checkRecord_of_ok {st : Staging} (h : checkFields l.kind l.staging bytes = .ok st) :
    checkRecord l bytes = (st, checkLink st (l.fetched + 1) bytes) := by
  rw [checkRecord, if_pos (by rw [hkind, kindOf_code]), h]

end CheckRecord

/-! ### Views (R33) -/

/-- The degrees of a rotation, as a VIEW record gives it. -/
def Rotation.degrees : Rotation → Nat
  | .r0 => 0
  | .r90 => 90
  | .r180 => 180
  | .r270 => 270

theorem rotationOf_degrees (r : Rotation) : rotationOf r.degrees = some r := by cases r <;> rfl

theorem rotationOf_eq_some {n : Nat} {r : Rotation} (h : rotationOf n = some r) : n = r.degrees := by
  unfold rotationOf at h
  split_ifs at h with h0 h1 h2 h3 <;> obtain rfl := Option.some.inj h
  · exact h0
  · exact h1
  · exact h2
  · exact h3

theorem exists_rotation {n : Nat} (h : n = 0 ∨ n = 90 ∨ n = 180 ∨ n = 270) : ∃ r : Rotation, n = r.degrees := by
  obtain rfl | rfl | rfl | rfl := h
  · exact ⟨.r0, rfl⟩
  · exact ⟨.r90, rfl⟩
  · exact ⟨.r180, rfl⟩
  · exact ⟨.r270, rfl⟩

theorem Rotation.degrees_cases (r : Rotation) : r.degrees = 0 ∨ r.degrees = 90 ∨ r.degrees = 180 ∨ r.degrees = 270 := by
  cases r <;> simp [Rotation.degrees]

/-- The fields of a VIEW record that pass its checks (R33). -/
structure ViewSound (bytes : List Byte) : Prop where
  number : byteAt bytes 8 ≤ 5
  rotation : half bytes 10 = 0 ∨ half bytes 10 = 90 ∨ half bytes 10 = 180 ∨ half bytes 10 = 270
  extent : 4 ≤ half bytes 16 ∧ half bytes 16 ≤ 2400 ∧ 4 ≤ half bytes 18 ∧ half bytes 18 ≤ 2400
  base : long bytes 12 % 256 = 0
  stride : long bytes 20 % 16 = 0 ∧ half bytes 16 * 4 ≤ long bytes 20
  columns : ¬(half bytes 10 = 90 ∨ half bytes 10 = 270) → half bytes 24 % 4 = 0 ∧ half bytes 16 % 4 = 0
  window : long bytes 12 + long bytes 20 * half bytes 18 ≤ 33554432
  turned : (half bytes 10 = 90 ∨ half bytes 10 = 270) → half bytes 24 + half bytes 18 ≤ 2400 ∧ half bytes 26 + half bytes 16 ≤ 1800
  straight : ¬(half bytes 10 = 90 ∨ half bytes 10 = 270) → half bytes 24 + half bytes 16 ≤ 2400 ∧ half bytes 26 + half bytes 18 ≤ 1800

theorem View.wellPlaced_iff (v : View) :
    v.wellPlaced = true ↔
      (4 ≤ v.wv ∧ v.wv ≤ 2400 ∧ 4 ≤ v.hv ∧ v.hv ≤ 2400) ∧ v.base % 256 = 0 ∧ (v.sv % 16 = 0 ∧ v.wv * 4 ≤ v.sv) ∧
        (¬v.turned = true → v.x0 % 4 = 0 ∧ v.wv % 4 = 0) ∧ v.base + v.sv * v.hv ≤ 33554432 ∧
        (v.turned = true → v.x0 + v.hv ≤ 2400 ∧ v.y0 + v.wv ≤ 1800) ∧
        (¬v.turned = true → v.x0 + v.wv ≤ 2400 ∧ v.y0 + v.hv ≤ 1800) := by
  simp only [View.wellPlaced, Bool.and_eq_true, Bool.or_eq_true, decide_eq_true_eq, and_assoc]
  by_cases hturned : v.turned = true
  · simp [hturned, View.pw, View.ph, View.windowBytes, Config.apertureBytes, Config.panelColumns, Config.panelRows]
  · simp [hturned, View.pw, View.ph, View.windowBytes, Config.apertureBytes, Config.panelColumns, Config.panelRows]

theorem viewSound_iff {bytes : List Byte} {r : Rotation} (hr : half bytes 10 = r.degrees) :
    ViewSound bytes ↔ (viewOf bytes r).number < 6 ∧ (viewOf bytes r).wellPlaced = true := by
  have hturned : (viewOf bytes r).turned = true ↔ half bytes 10 = 90 ∨ half bytes 10 = 270 := by
    rw [View.turned_iff, hr]
    cases r <;> simp [viewOf, Rotation.degrees]
  rw [View.wellPlaced_iff, hturned]
  constructor
  · rintro ⟨hnumber, -, hextent, hbase, hstride, hcolumns, hwindow, hturned, hstraight⟩
    exact ⟨Nat.lt_succ_of_le hnumber, hextent, hbase, hstride, hcolumns, hwindow, hturned, hstraight⟩
  · rintro ⟨hnumber, hextent, hbase, hstride, hcolumns, hwindow, hturned, hstraight⟩
    exact ⟨Nat.le_of_lt_succ hnumber, hr ▸ r.degrees_cases, hextent, hbase, hstride, hcolumns, hwindow, hturned, hstraight⟩

theorem checkView_of_sound {st : Staging} {bytes : List Byte} {r : Rotation} (hr : half bytes 10 = r.degrees) (h : ViewSound bytes) :
    checkView st bytes =
      .ok { st with views := st.views.set (byteAt bytes 8) (some (viewOf bytes r)), viewCount := st.viewCount + 1 } := by
  rw [checkView, hr, rotationOf_degrees]
  exact if_pos ((viewSound_iff hr).1 h)

theorem checkView_of_unsound {st : Staging} {bytes : List Byte} (h : ¬ViewSound bytes) : checkView st bytes = .error .badView := by
  unfold checkView
  split
  · rfl
  · next r hr => exact if_neg fun hsound => h ((viewSound_iff (rotationOf_eq_some hr)).2 hsound)

theorem viewOf_eq (bytes : List Byte) (r : Rotation) :
    viewOf bytes r =
      { number := byteAt bytes 8, rotation := r, mirror := decide (byteAt bytes 9 % 2 = 1), base := long bytes 12, wv := half bytes 16,
        hv := half bytes 18, sv := long bytes 20, x0 := half bytes 24, y0 := half bytes 26 } := by
  rw [viewOf, getLsbD_getD, Nat.pow_zero, Nat.div_one]

/-! ### Spines and guards (R34, R35) -/

theorem checkSpine_eq (st : Staging) (bytes : List Byte) :
    checkSpine st bytes =
      if (8 ≤ half bytes 10 ∧ half bytes 10 ≤ 256) ∧ half bytes 10 % 8 = 0 ∧ byteAt bytes 12 = half bytes 10 / 8 + 1 then
        .ok { st with spine := some (spineOf bytes), spineCount := st.spineCount + 1 }
      else .error .badSpine := if_congr and_assoc.symm rfl rfl

theorem guardOf_eq (bytes : List Byte) :
    guardOf bytes =
      { colour := colourAt bytes 8, onClosed := decide (byteAt bytes 12 % 2 = 1), onPartial := decide (byteAt bytes 12 / 2 % 2 = 1),
        onOpen := decide (byteAt bytes 12 / 4 % 2 = 1), rects := (guardOf bytes).rects } := by
  rw [guardOf, getLsbD_getD, getLsbD_getD, getLsbD_getD, Nat.pow_zero, Nat.div_one]
  exact rfl

theorem checkGuard_eq (st : Staging) (bytes : List Byte) :
    checkGuard st bytes =
      if byteAt bytes 12 % 8 ≠ 0 ∧ (1 ≤ byteAt bytes 13 ∧ byteAt bytes 13 ≤ 4) ∧
          ∀ r ∈ (guardOf bytes).rects, 1 ≤ r.width ∧ 1 ≤ r.height then
        .ok { st with guard := some (guardOf bytes), guardCount := st.guardCount + 1 }
      else .error .badGuard := by
  have hpostures : ((guardOf bytes).onClosed || (guardOf bytes).onPartial || (guardOf bytes).onOpen) = true ↔ byteAt bytes 12 % 8 ≠ 0 := by
    rw [guardOf_eq]
    simp only [Bool.or_eq_true, decide_eq_true_eq]
    omega
  refine if_congr ?_ rfl rfl
  simp only [hpostures, List.all_eq_true, Bool.and_eq_true, decide_eq_true_eq, and_assoc]

/-! ### Links (R30) -/

section CheckLink
variable {st : Staging} {fetched : Nat} {bytes : List Byte}

theorem linkOf_end (h : byteAt bytes 4 = 0) : linkOf bytes = .finish := by
  rw [linkOf, h]
  exact rfl

theorem checkLink_of_install {layout : Layout} (h : byteAt bytes 4 = 0) (hwhole : checkWhole st = .ok layout) :
    checkLink st fetched bytes = .install layout := by
  rw [checkLink, linkOf_end h]
  simp only [hwhole]

theorem checkLink_of_fail {r : Result} (h : byteAt bytes 4 = 0) (hwhole : checkWhole st = .error r) :
    checkLink st fetched bytes = .fail r := by
  rw [checkLink, linkOf_end h]
  simp only [hwhole]

theorem checkLink_of_bad (h : 4 < byteAt bytes 4 ∨ byteAt bytes 4 = 1) : checkLink st fetched bytes = .fail .badRecord := by
  have hlink : linkOf bytes = .bad := by
    unfold linkOf
    split
    · omega
    · omega
    · omega
    · omega
    · rfl
  rw [checkLink, hlink]

theorem checkLink_of_next {kind : RecordKind} (h : byteAt bytes 4 = kind.code) (hkind : kind ≠ .head) :
    checkLink st fetched bytes =
      if half bytes 6 % 32 ≠ 0 ∨ half bytes 6 < 0x200 ∨ 0x10000 < half bytes 6 + kind.size then .fail .chainRange
      else if 16 ≤ fetched then .fail .chainLong
      else .fetch kind (half bytes 6) := by
  have hlink : linkOf bytes = .next kind (half bytes 6) := by
    cases kind with
    | head => exact absurd rfl hkind
    | _ =>
      rw [linkOf, h]
      exact rfl
  rw [checkLink, hlink]
  exact rfl

end CheckLink

/-! ### The whole layout (R36) -/

theorem not_iff_not_of_bool {b : Bool} {p : Prop} (h : b = true ↔ p) : (!b) = true ↔ ¬p := by
  rw [← h, Bool.not_eq_true', Bool.not_eq_true]

theorem Rect.onPanel_iff (r : Rect) : r.onPanel = true ↔ r.x + r.width ≤ 2400 ∧ r.y + r.height ≤ 1800 := decide_eq_true_iff

theorem spineFits_iff (spine : Option Spine) :
    (match spine with | none => true | some sp => decide (sp.start + sp.width ≤ Config.panelColumns)) = true ↔
      ∀ sp ∈ spine, sp.start + sp.width ≤ 2400 := by
  cases spine with
  | none => exact iff_of_true rfl nofun
  | some sp =>
    simp only [decide_eq_true_eq, Option.mem_some_iff, forall_eq']
    exact Iff.rfl

theorem guardFits_iff (guard : Option Guard) :
    (match guard with | none => true | some g => g.rects.all Rect.onPanel) = true ↔
      ∀ g ∈ guard, ∀ r ∈ g.rects, r.x + r.width ≤ 2400 ∧ r.y + r.height ≤ 1800 := by
  cases guard with
  | none => exact iff_of_true rfl nofun
  | some g => simp only [List.all_eq_true, Rect.onPanel_iff, Option.mem_some_iff, forall_eq']

theorem checkWhole_eq {st : Staging} {head : HeadRecord} (hhead : st.head = some head) :
    checkWhole st =
      if ¬(st.viewCount = head.declared ∧ st.viewCount = st.viewList.length) then .error .badView
      else if 2 ≤ st.spineCount then .error .badSpine
      else if 2 ≤ st.guardCount then .error .badGuard
      else if ¬st.viewList.Pairwise fun v w => ¬(v.base < w.base + w.sv * w.hv ∧ w.base < v.base + v.sv * v.hv) then .error .overlap
      else if ¬st.viewList.Pairwise fun v w =>
          ¬(v.x0 < w.x0 + w.pw ∧ w.x0 < v.x0 + v.pw ∧ v.y0 < w.y0 + w.ph ∧ w.y0 < v.y0 + v.ph) then .error .overlap
      else if ¬(∀ sp ∈ st.spine, sp.start + sp.width ≤ 2400) then .error .badSpine
      else if ¬(∀ g ∈ st.guard, ∀ r ∈ g.rects, r.x + r.width ≤ 2400 ∧ r.y + r.height ≤ 1800) then .error .badGuard
      else .ok { tag := head.tag, background := head.background, views := st.viewList, spine := st.spine, guard := st.guard } := by
  have hwindows : apart windowsMeet st.viewList = true ↔
      st.viewList.Pairwise fun v w => ¬(v.base < w.base + w.sv * w.hv ∧ w.base < v.base + v.sv * v.hv) := by
    rw [apart_iff]
    simp only [windowsMeet, Bool.and_eq_false_iff, decide_eq_false_iff_not, not_and_or]
    exact Iff.rfl
  have hplaces : apart rectsMeet (st.viewList.map View.panelRect) = true ↔
      st.viewList.Pairwise fun v w =>
        ¬(v.x0 < w.x0 + w.pw ∧ w.x0 < v.x0 + v.pw ∧ v.y0 < w.y0 + w.ph ∧ w.y0 < v.y0 + v.ph) := by
    rw [apart_iff, List.pairwise_map]
    simp only [rectsMeet, Bool.and_eq_false_iff, decide_eq_false_iff_not, not_and_or, or_assoc]
    exact Iff.rfl
  rw [checkWhole, hhead]
  exact if_congr Iff.rfl rfl (if_congr Iff.rfl rfl (if_congr Iff.rfl rfl (if_congr (not_iff_not_of_bool hwindows) rfl
    (if_congr (not_iff_not_of_bool hplaces) rfl (if_congr (not_iff_not_of_bool (spineFits_iff st.spine)) rfl
      (if_congr (not_iff_not_of_bool (guardFits_iff st.guard)) rfl rfl))))))
end Sys2Proof.Machine
end

section
/-! The chain fetch and its walk (R27, R28, R30 to R38, R152): the rows HEAD_FETCH_OFFER and BURST_COMPLETE of a load. -/

namespace Sys2Proof.Machine

/-! ### What the end of a step does to a load -/

/-- The end of a step does to a load that holds no data no more than grant its fetch. -/
structure LoadEnds (s t : State) : Prop where
  gone : s.layouts.load = none → t.layouts.load = none
  goesOn : ∀ l, s.layouts.load = some l → l.data = [] → ∃ phase, t.layouts.load = some { l with phase := phase }

theorem LoadEnds.trans {s t u : State} (h : LoadEnds s t) (k : LoadEnds t u) : LoadEnds s u := by
  refine ⟨fun hnone => k.gone (h.gone hnone), fun l hl hdata => ?_⟩
  obtain ⟨phase, hphase⟩ := h.goesOn l hl hdata
  obtain ⟨phase', hphase'⟩ := k.goesOn _ hphase hdata
  exact ⟨phase', hphase'⟩

theorem LoadEnds.of_eq {s t : State} (h : t.layouts = s.layouts) : LoadEnds s t :=
  ⟨fun hnone => by rw [h, hnone], fun l hl _ => ⟨l.phase, by rw [h, hl]⟩⟩

theorem State.settleSwaps_loadEnds (n : Nat) (s : State) : LoadEnds s (State.settleSwaps n s) :=
  .of_eq (congrArg Beside.layouts (State.settleSwaps_steps n s).beside)

theorem State.retryInsert_loadEnds (s : State) : LoadEnds s s.retryInsert := .of_eq (congrArg Aside.layouts s.retryInsert_aside)

theorem State.grant_loadEnds (s : State) (x : Source) : LoadEnds s (s.grant x) := by
  cases x with
  | fetch =>
    refine ⟨fun hnone => ?_, fun l hl hdata => ⟨.inFlight, ?_⟩⟩
    · simp only [State.grant, State.grantFetch, hnone]
    · simp only [State.grant, State.grantFetch, hl, ← hdata]
      exact rfl
  | record => exact .of_eq rfl
  | _ =>
    refine .of_eq ?_
    simp only [State.grant, State.grantPriority, State.grantPath, State.grantOrdinary, State.grantFill]
    split <;> rfl

theorem State.choicePoint_loadEnds (s : State) : LoadEnds s s.choicePoint := by
  unfold State.choicePoint
  split
  · exact .of_eq rfl
  · unfold State.grantPick
    split
    · exact .of_eq rfl
    · exact s.grant_loadEnds _

theorem State.concludeCompletion_loadEnds (before s : State) : LoadEnds s (State.concludeCompletion before s) := by
  have hchoice (u : State) : LoadEnds u (State.completionChoice before u) := by
    unfold State.completionChoice
    split
    · exact (u.grant_loadEnds _).trans (.of_eq rfl)
    · exact u.choicePoint_loadEnds.trans (.of_eq rfl)
  obtain ⟨b, n, horder⟩ := State.orderOffers_eq before (State.completionChoice before (State.settleSwaps 2 s).retryInsert).retryInsert
  rw [State.concludeCompletion, horder]
  exact ((State.settleSwaps_loadEnds 2 s).trans (State.retryInsert_loadEnds _)).trans
    (((hchoice _).trans (State.retryInsert_loadEnds _)).trans (.of_eq rfl))

/-! ### The fetch is offered and granted (R27, R152) -/

section Offer
variable {s : State} {l : Load}

/-- R152, R153: with no record write standing, an IDLE port takes a chain fetch that stands. -/
theorem State.choicePoint_of_fetch (hport : s.port = none) (hload : s.layouts.load = some l) (hphase : l.phase = .offered)
    (hrecord : s.recordStands = false) : s.choicePoint = s.grantFetch := by
  have hpick : s.pick s.stands = some .fetch := by
    simp [State.pick, State.pickControl, State.stands, State.fetchStands, hload, hphase, hrecord]
  rw [State.choicePoint_of_port_none hport, hpick]
  rfl

variable (hload : s.layouts.load = some l)
include hload

theorem exec_headFetchOffer (hphase : l.phase = .waiting) (hclear : s.mailboxOutstanding = none) :
    exec .headFetchOffer s = .next (s.offerFetch l).conclude := by
  refine exec_of_concluded ?_
  simp only [act, actHeadFetchOffer, hload]
  exact if_pos ⟨hphase, hclear⟩

theorem exec_headFetchOffer_waits (hstands : s.mailboxOutstanding ≠ none) : exec .headFetchOffer s = .next s := by
  refine exec_of_still ?_
  simp only [act, actHeadFetchOffer, hload]
  exact if_neg fun h => hstands h.2

end Offer

/-! ### A record is in (R28, R31, R37, R38) -/

section Fetched
variable {s : State} {l : Load}

theorem State.recordFetched_of_fetch {kind : RecordKind} {offset : Nat} (h : (checkRecord l (beatsBytes l.data)).2 = .fetch kind offset) :
    s.recordFetched l =
      s.offerFetch
        { l with offset := offset, kind := kind, fetched := l.fetched + 1, staging := (checkRecord l (beatsBytes l.data)).1 } := by
  rw [State.recordFetched]
  dsimp only
  rw [h]

theorem State.recordFetched_of_install {layout : Layout} (h : (checkRecord l (beatsBytes l.data)).2 = .install layout) :
    s.recordFetched l = s.endLoad (.ready layout) l.slot .ok := by
  rw [State.recordFetched]
  dsimp only
  rw [h]

theorem State.recordFetched_of_fail {r : Result} (h : (checkRecord l (beatsBytes l.data)).2 = .fail r) :
    s.recordFetched l = s.endLoad (restoredSlot s.layouts.slots[l.slot]) l.slot r := by
  rw [State.recordFetched]
  dsimp only
  rw [h]

end Fetched

/-- A completed chain fetch gives its record to the walk. -/
theorem State.completeFlight_fetch {s : State} {f : Flight} {l : Load} {beats : List EnableBeat} (horigin : f.origin = .fetch)
    (hwanted : f.wanted = true) (hpayload : f.payload = .read beats) (hload : s.layouts.load = some l) :
    s.completeFlight f = { s with port := none }.recordFetched l := by
  have hlanded : s.landed f = s.mem := by rw [State.landed, hpayload]
  rw [State.completeFlight, State.reportCompletion, if_pos hwanted, horigin, hlanded]
  simp only [State.fetchComplete, hload]

/-- R37, R38: what the end of a load leaves. -/
theorem State.concludeCompletion_endLoad (before s : State) (x : Slot) (i : Fin 8) (r : Result) :
    let t := State.concludeCompletion before (s.endLoad x i r)
    t.layouts.load = none ∧ t.layouts.slots = s.layouts.slots.set i x ∧
      t.decoder = { s.decoder with busy := false, lastResult := r } ∧ t.flag .loadDone = true := by
  intro t
  obtain ⟨fl, w, b, hended⟩ := s.endLoad_eq x i r
  have hkept : t.kept = (s.endLoad x i r).kept := State.concludeCompletion_kept before _
  refine ⟨(State.concludeCompletion_loadEnds before _).gone (by rw [hended]), ?_, ?_, State.concludeCompletion_flagsStay before _ _ ?_⟩
  · exact (congrArg Kept.slots hkept).trans (by rw [hended]; rfl)
  · exact (congrArg Kept.decoder hkept).trans (by rw [hended]; rfl)
  · rw [State.endLoad, State.report_flag]
    rfl

/-- Settles O33: the fetch by its grant, the walk by the step that follows the checked record, and each check by the fields of its
record. -/
theorem chainFetchesAreOfferedAndWalked : Obligations.ChainFetchesAreOfferedAndWalked := by
  refine ⟨?offer, ?walk, ?record, ?link, ?whole⟩
  case offer =>
    intro s l hload hphase
    refine ⟨fun hclear => ⟨_, exec_headFetchOffer hload hphase hclear, fun hbusy => ?_, fun hport hquiet hswap hwaits hkind => ?_⟩,
      fun hstands => exec_headFetchOffer_waits hload hstands⟩
    · obtain ⟨f, hf⟩ := Option.isSome_iff_exists.1 hbusy
      rw [State.conclude_busy_layouts (s := s.offerFetch l) hf]
      rfl
    · have hrecord : (s.offerFetch l).recordStands = false := by
        simp [State.recordStands, State.offerFetch, hquiet]
      have hend : (s.offerFetch l).conclude = (s.offerFetch l).grantFetch := by
        rw [State.conclude_of_rest (s := s.offerFetch l) ((State.swapDue_congr rfl rfl).trans hswap) hwaits]
        exact State.choicePoint_of_fetch hport rfl rfl hrecord
      rw [hend]
      refine ⟨rfl, ?_⟩
      simp only [State.grantFetch, State.offerFetch, hkind]
      exact rfl
  case walk =>
    intro s f beats l hport horigin hwanted hpayload hmoved hload
    have hmay : f.mayComplete = true := (Flight.mayComplete_of_read hpayload).trans (decide_eq_true hmoved)
    refine ⟨_, exec_burstComplete hport hmay, ?_, ?_, ?_⟩
    · intro kind offset hstep
      rw [State.completeFlight_fetch horigin hwanted hpayload hload, State.recordFetched_of_fetch hstep]
      have hkept := State.concludeCompletion_kept s ({ s with port := none }.offerFetch
        { l with offset := offset, kind := kind, fetched := l.fetched + 1, staging := (checkRecord l (beatsBytes l.data)).1 })
      obtain ⟨phase, hphase⟩ := (State.concludeCompletion_loadEnds s _).goesOn _ (rfl : ({ s with port := none }.offerFetch
        { l with offset := offset, kind := kind, fetched := l.fetched + 1,
                 staging := (checkRecord l (beatsBytes l.data)).1 }).layouts.load = some _) rfl
      exact ⟨⟨_, hphase, rfl, rfl, rfl, rfl, rfl, rfl⟩, congrArg Kept.slots hkept, congrArg Kept.decoder hkept⟩
    · intro layout hstep
      rw [State.completeFlight_fetch horigin hwanted hpayload hload, State.recordFetched_of_install hstep]
      exact State.concludeCompletion_endLoad s { s with port := none } _ _ _
    · intro r hstep
      rw [State.completeFlight_fetch horigin hwanted hpayload hload, State.recordFetched_of_fail hstep]
      exact State.concludeCompletion_endLoad s { s with port := none } _ _ _
  case record =>
    intro l bytes after st link b h
    refine ⟨fun hne => checkRecord_of_kind_ne fun heq => hne ?_, fun hk hkind => ?_, fun hk hkind => ?_, fun hk hkind => ?_,
      fun hk hkind => ?_⟩
    · refine heq.trans ?_
      cases l.kind <;> rfl
    · have hcode : byteAt bytes 0 = l.kind.code := by rw [hk]; exact hkind
      refine ⟨fun hno => checkRecord_of_error hcode ?_, fun hlow hhigh => checkRecord_of_ok hcode ?_⟩
      · rw [hk]
        exact if_neg hno
      · rw [hk]
        exact if_pos ⟨hlow, hhigh⟩
    · intro turned base stride sound
      have hcode : byteAt bytes 0 = l.kind.code := by rw [hk]; exact hkind
      have hsound : sound ↔ ViewSound bytes :=
        ⟨fun ⟨hnumber, hrotation, hextent, hbase, hstride, hcolumns, hwindow, hturned, hstraight⟩ =>
            ⟨hnumber, hrotation, hextent, hbase, hstride, hcolumns, hwindow, hturned, hstraight⟩,
          fun ⟨hnumber, hrotation, hextent, hbase, hstride, hcolumns, hwindow, hturned, hstraight⟩ =>
            ⟨hnumber, hrotation, hextent, hbase, hstride, hcolumns, hwindow, hturned, hstraight⟩⟩
      refine ⟨fun hno => checkRecord_of_error hcode ?_, fun hyes => ?_⟩
      · rw [hk]
        exact checkView_of_unsound fun hview => hno (hsound.2 hview)
      · have hview := hsound.1 hyes
        obtain ⟨r, hr⟩ := exists_rotation hview.rotation
        refine ⟨r, hr.trans ?_, checkRecord_of_ok hcode ?_⟩
        · cases r <;> rfl
        · rw [hk]
          exact (checkView_of_sound hr hview).trans (by rw [viewOf_eq])
    · intro sound
      have hcode : byteAt bytes 0 = l.kind.code := by rw [hk]; exact hkind
      refine ⟨fun hno => checkRecord_of_error hcode ?_, fun hyes => checkRecord_of_ok hcode ?_⟩
      · rw [hk]
        exact (checkSpine_eq _ _).trans (if_neg hno)
      · rw [hk]
        exact (checkSpine_eq _ _).trans (if_pos hyes)
    · intro rects sound
      have hcode : byteAt bytes 0 = l.kind.code := by rw [hk]; exact hkind
      refine ⟨fun hno => checkRecord_of_error hcode ?_, fun hyes => checkRecord_of_ok hcode ?_⟩
      · rw [hk]
        exact (checkGuard_eq _ _).trans (if_neg hno)
      · rw [hk]
        exact (checkGuard_eq _ _).trans ((if_pos hyes).trans (by rw [guardOf_eq]; exact rfl))
  case link =>
    intro st fetched bytes next offset step
    refine ⟨fun hend => ⟨fun layout hok => ?_, fun r herror => ?_⟩, fun hbad => checkLink_of_bad hbad, ?_⟩
    · exact checkLink_of_install hend hok
    · exact checkLink_of_fail hend herror
    · rintro kind size (⟨hnext, rfl, rfl⟩ | ⟨hnext, rfl, rfl⟩ | ⟨hnext, rfl, rfl⟩)
      · exact checkLink_of_next (kind := .view) hnext (by decide)
      · exact checkLink_of_next (kind := .spine) hnext (by decide)
      · exact checkLink_of_next (kind := .guard) hnext (by decide)
  case whole =>
    intro st head hhead views windowsApart placesApart
    exact (checkWhole_eq hhead).trans (by congr)
end Sys2Proof.Machine
end

section
/-! The status record image (R173, R176, 11.4): its parts, their places, and what each byte holds. -/

namespace Sys2Proof.Machine

/-! ### Little-endian fields -/

theorem byteAt_of_getD {bytes : List Byte} {i n : Nat} (h : bytes.getD i 0 = BitVec.ofNat 8 n) (hn : n < 256) : byteAt bytes i = n := by
  rw [byteAt, h, BitVec.toNat_ofNat, Nat.mod_eq_of_lt hn]

theorem half_of_getD {bytes : List Byte} {i n : Nat} (h0 : bytes.getD i 0 = BitVec.ofNat 8 n)
    (h1 : bytes.getD (i + 1) 0 = BitVec.ofNat 8 (n / 256)) : half bytes i = n % 65536 := by
  rw [half, byteAt, byteAt, h0, h1, BitVec.toNat_ofNat, BitVec.toNat_ofNat]
  omega

theorem long_of_half {bytes : List Byte} {i n : Nat} (h0 : half bytes i = n % 65536) (h1 : half bytes (i + 2) = n / 65536) :
    long bytes i = n := by
  rw [long, h0, h1]
  omega

theorem getD_append_of_lt {a b : List Byte} {i : Nat} (h : i < a.length) : (a ++ b).getD i 0 = a.getD i 0 := List.getD_append _ _ _ _ h

theorem getD_append_add (a b : List Byte) (i : Nat) : (a ++ b).getD (a.length + i) 0 = b.getD i 0 := by
  rw [List.getD_append_right _ _ _ _ (Nat.le_add_right _ _), Nat.add_sub_cancel_left]

/-! ### The parts of the image -/

/-- A part of the image stands at its place, with so many bytes. -/
structure InImage (s : State) (part : List Byte) (start size : Nat) : Prop where
  getD : ∀ i, i < size → s.image.getD (start + i) 0 = part.getD i 0

namespace InImage
variable {s : State} {part : List Byte} {start size i n : Nat} (h : InImage s part start size)
include h

theorem word (hi : i < size) {w : Byte} (hget : part.getD i 0 = w) : byteAt s.image (start + i) = w.toNat := by
  rw [byteAt, h.getD i hi, hget]

theorem byte (hi : i < size) (hget : part.getD i 0 = BitVec.ofNat 8 n) (hn : n < 256) : byteAt s.image (start + i) = n :=
  byteAt_of_getD ((h.getD i hi).trans hget) hn

theorem half_mod (hi : i + 1 < size) (hlow : part.getD i 0 = BitVec.ofNat 8 n)
    (hhigh : part.getD (i + 1) 0 = BitVec.ofNat 8 (n / 256)) : half s.image (start + i) = n % 65536 :=
  half_of_getD ((h.getD i (Nat.lt_of_succ_lt hi)).trans hlow) ((h.getD (i + 1) hi).trans hhigh)

theorem half (hi : i + 1 < size) (hn : n < 65536) (hlow : part.getD i 0 = BitVec.ofNat 8 n)
    (hhigh : part.getD (i + 1) 0 = BitVec.ofNat 8 (n / 256)) : half s.image (start + i) = n :=
  (h.half_mod hi hlow hhigh).trans (Nat.mod_eq_of_lt hn)

end InImage

/-- The fields of offsets 0x00 to 0x27. -/
def State.headFields (s : State) : List (List Byte) :=
  [[s.decoder.lastCommand], le8 s.decoder.lastResult.code, le8 (bitAt 0 s.decoder.busy), le8 s.front.link.code,
    le16 s.decoder.taken.toNat, le16 0, le16 s.status.flags.toNat, le16 s.status.mask.toNat, le16 0, le16 0,
    le16 s.status.counters.orphan, le16 s.status.counters.padding, le16 s.status.counters.saturation, le16 s.status.counters.eviction,
    le16 s.status.counters.clampedSamples, le16 s.status.counters.lateSwaps, le16 s.status.counters.abandonedSwaps,
    le16 s.status.counters.rejectedRecords, le8 s.front.highWater, le8 s.front.settleSetting, le8 s.collector.ageInterval, le8 0,
    le16 s.planes.swapLimit, le16 0]

theorem State.imageHead_eq (s : State) : s.imageHead = s.headFields.flatten := by
  simp only [State.imageHead, State.headFields, counterBytes, le32, List.flatten_cons, List.flatten_nil, List.append_nil,
    List.append_assoc, Nat.zero_div]

/-- The fields of offsets 0x50 to 0x6B. -/
def State.trackerFields (s : State) : List (List Byte) :=
  [le8 (bitAt 0 s.tracker.sensor0.good + bitAt 1 s.tracker.sensor1.good + bitAt 2 (decide (s.tracker.pair = .disagree)) +
      bitAt 3 s.pins.closedLatch),
    le8 s.tracker.mode.code, le8 (s.tracker.settled.elim 0 Posture.code), le8 (s.tracker.candidate.elim 0 fun c => c.1.code),
    le8 (s.tracker.candidate.elim 0 Prod.snd), le8 s.tracker.dwell, le16 (s.tracker.lastFused.getD 0xFFFF), le16 s.tracker.closedEnter,
    le16 s.tracker.closedExit, le16 s.tracker.openExit, le16 s.tracker.openEnter, le16 s.tracker.agreementLimit,
    le16 (signed16 s.tracker.sensor0.offset), le16 (signed16 s.tracker.sensor1.offset), le8 s.tracker.period, le8 0,
    le8 (mapByte s.tracker.map.closed), le8 (mapByte s.tracker.map.partly), le8 (mapByte s.tracker.map.opened), le8 0]

theorem State.imageTracker_eq (s : State) : s.imageTracker = s.trackerFields.flatten := by
  unfold State.trackerFields State.imageTracker
  dsimp only
  cases s.tracker.lastFused with
  | none =>
    dsimp only [Option.getD]
    generalize le16 65535 = noAngle
    cases s.tracker.settled <;> cases s.tracker.candidate <;>
      simp only [List.append_assoc, List.flatten_cons, List.flatten_nil, List.append_nil, Option.elim]
  | some a =>
    cases s.tracker.settled <;> cases s.tracker.candidate <;>
      simp only [List.append_assoc, List.flatten_cons, List.flatten_nil, List.append_nil, Option.elim, Option.getD]

/-- The beats the head job has written. -/
def State.headWritten (s : State) : Nat := s.fill.jobs.head?.elim 0 FillJob.beatsWritten

/-- The fields of offsets 0x6C to 0x7F. -/
def State.fillFields (s : State) : List (List Byte) :=
  [le8 s.fill.jobs.length, le8 (bitAt 0 s.fill.paused), le16 0, le8 (jobByte s.fill.jobs 0), le8 (jobByte s.fill.jobs 1),
    le8 (jobByte s.fill.jobs 2), le8 (jobByte s.fill.jobs 3), le16 s.headWritten, le16 (s.headWritten / 65536), List.replicate 8 0]

theorem State.imageFill_eq (s : State) : s.imageFill = s.fillFields.flatten := by
  rw [State.imageFill, State.fillFields, State.headWritten]
  cases s.fill.jobs <;>
    simp only [le32, List.flatten_cons, List.flatten_nil, List.append_nil, List.append_assoc, Option.elim, List.head?_cons, List.head?_nil]

/-- The fields of offsets 0x48 to 0x4F. -/
def State.planeFields (s : State) : List (List Byte) :=
  [le8 (bindingByte s.planes.a.binding), le8 (planeByte s.planes .A), le8 (bindingByte s.planes.b.binding), le8 (planeByte s.planes .B),
    le8 (switchByte s.planes.switch), le8 (bitAt 0 (decide (s.planes.select = .B)) + bitAt 1 s.frame.scanStopped),
    le16 s.frame.counter.toNat]

/-- The bytes of offsets 0x28 to 0x47. -/
def State.imageSlots (s : State) : List Byte := s.layouts.slots.toList.flatMap slotBytes

theorem State.imagePlanes_eq (s : State) : s.imagePlanes = s.imageSlots ++ s.planeFields.flatten := by
  simp only [State.imagePlanes, State.imageSlots, State.planeFields, List.flatten_cons, List.flatten_nil, List.append_nil,
    List.append_assoc]

theorem State.image_eq (s : State) :
    s.image = s.headFields.flatten ++ (s.imageSlots ++ (s.planeFields.flatten ++ (s.trackerFields.flatten ++ s.fillFields.flatten))) := by
  rw [State.image, State.imageHead_eq, State.imagePlanes_eq, State.imageTracker_eq, State.imageFill_eq]
  simp only [List.append_assoc]

theorem flatMap_slotBytes_length (slots : List Slot) : (slots.flatMap slotBytes).length = 4 * slots.length := by
  induction slots with
  | nil => rfl
  | cons x rest ih =>
    rw [List.flatMap_cons, List.length_append, ih, List.length_cons, show (slotBytes x).length = 4 from rfl]
    omega

theorem getD_flatMap_slotBytes {slots : List Slot} {j k : Nat} (hj : j < slots.length) (hk : k < 4) :
    (slots.flatMap slotBytes).getD (4 * j + k) 0 = (slotBytes slots[j]).getD k 0 := by
  induction slots generalizing j with
  | nil => cases hj
  | cons x rest ih =>
    rw [List.flatMap_cons]
    cases j with
    | zero => rw [Nat.mul_zero, Nat.zero_add, getD_append_of_lt (show k < (slotBytes x).length from hk), List.getElem_cons_zero]
    | succ j =>
      rw [show 4 * (j + 1) + k = (slotBytes x).length + (4 * j + k) by rw [show (slotBytes x).length = 4 from rfl]; omega,
        getD_append_add, List.getElem_cons_succ]
      exact ih (Nat.lt_of_succ_lt_succ hj)

theorem State.imageSlots_length (s : State) : s.imageSlots.length = 32 := by
  rw [State.imageSlots, flatMap_slotBytes_length, Vector.length_toList]

theorem State.headFields_length (s : State) : s.headFields.flatten.length = 40 := rfl

theorem State.planeFields_length (s : State) : s.planeFields.flatten.length = 8 := rfl

theorem State.trackerFields_length (s : State) : s.trackerFields.flatten.length = 28 := rfl

theorem State.fillFields_length (s : State) : s.fillFields.flatten.length = 20 := rfl

theorem State.image_length (s : State) : s.image.length = 128 := by
  rw [State.image_eq, List.length_append, List.length_append, List.length_append, List.length_append, s.headFields_length,
    s.imageSlots_length, s.planeFields_length, s.trackerFields_length, s.fillFields_length]

/-! ### The places of the parts -/

theorem State.head_inImage (s : State) : InImage s s.headFields.flatten 0 40 := by
  refine ⟨fun i hi => ?_⟩
  rw [Nat.zero_add, State.image_eq]
  exact getD_append_of_lt (by rw [State.headFields_length]; exact hi)

theorem State.image_behind_head (s : State) (i : Nat) :
    s.image.getD (40 + i) 0 =
      (s.imageSlots ++ (s.planeFields.flatten ++ (s.trackerFields.flatten ++ s.fillFields.flatten))).getD i 0 := by
  have h := getD_append_add s.headFields.flatten
    (s.imageSlots ++ (s.planeFields.flatten ++ (s.trackerFields.flatten ++ s.fillFields.flatten))) i
  rwa [s.headFields_length, ← State.image_eq] at h

theorem State.image_behind_slots (s : State) (i : Nat) :
    s.image.getD (0x48 + i) 0 = (s.planeFields.flatten ++ (s.trackerFields.flatten ++ s.fillFields.flatten)).getD i 0 := by
  have h := getD_append_add s.imageSlots (s.planeFields.flatten ++ (s.trackerFields.flatten ++ s.fillFields.flatten)) i
  rwa [s.imageSlots_length, ← s.image_behind_head, ← Nat.add_assoc] at h

theorem State.image_behind_planes (s : State) (i : Nat) :
    s.image.getD (0x50 + i) 0 = (s.trackerFields.flatten ++ s.fillFields.flatten).getD i 0 := by
  have h := getD_append_add s.planeFields.flatten (s.trackerFields.flatten ++ s.fillFields.flatten) i
  rwa [s.planeFields_length, ← s.image_behind_slots, ← Nat.add_assoc] at h

theorem State.slot_inImage (s : State) (i : Fin 8) : InImage s (slotBytes s.layouts.slots[i]) (0x28 + 4 * i.val) 4 := by
  refine ⟨fun k hk => ?_⟩
  have hi := i.isLt
  have hlength := s.imageSlots_length
  rw [Nat.add_assoc, State.image_behind_head, getD_append_of_lt (by omega), State.imageSlots,
    getD_flatMap_slotBytes (by rw [Vector.length_toList]; exact hi) hk, Vector.getElem_toList]
  exact rfl

theorem State.planes_inImage (s : State) : InImage s s.planeFields.flatten 0x48 8 :=
  ⟨fun i hi => (s.image_behind_slots i).trans (getD_append_of_lt (by rw [s.planeFields_length]; exact hi))⟩

theorem State.tracker_inImage (s : State) : InImage s s.trackerFields.flatten 0x50 28 :=
  ⟨fun i hi => (s.image_behind_planes i).trans (getD_append_of_lt (by rw [s.trackerFields_length]; exact hi))⟩

theorem State.fill_inImage (s : State) : InImage s s.fillFields.flatten 0x6C 20 := by
  refine ⟨fun i _ => ?_⟩
  have h := getD_append_add s.trackerFields.flatten s.fillFields.flatten i
  rwa [s.trackerFields_length, ← s.image_behind_planes, ← Nat.add_assoc] at h

/-! ### Codes and bits -/

theorem bitAt_decide (n : Nat) (p : Prop) [Decidable p] : bitAt n (decide p) = if p then 2 ^ n else 0 := by
  simp only [bitAt, decide_eq_true_eq]

theorem bitAt_le (n : Nat) (b : Bool) : bitAt n b ≤ 2 ^ n := by
  unfold bitAt
  split
  · exact Nat.le_refl _
  · exact Nat.zero_le _

theorem Result.code_lt (r : Result) : r.code < 256 := by cases r <;> decide

theorem LinkState.code_lt (l : LinkState) : l.code < 256 := by cases l <;> decide

theorem TrackerMode.code_lt (m : TrackerMode) : m.code < 256 := by cases m <;> decide

theorem Posture.code_lt (p : Posture) : p.code < 256 := by cases p <;> decide

theorem Slot.code_lt (x : Slot) : x.code < 256 := by cases x <;> simp [Slot.code]

theorem JobKind.code_le (k : JobKind) : k.code ≤ 2 := by cases k <;> decide

theorem bindingByte_lt (x : Option (Fin 8)) : bindingByte x < 256 := by
  cases x with
  | none => decide
  | some i => exact i.isLt.trans (by decide)

theorem mapByte_lt (x : Option (Fin 8)) : mapByte x < 256 := by
  cases x with
  | none => decide
  | some i => exact i.isLt.trans (by decide)

theorem planeByte_lt (t : Planes) (p : Plane) : planeByte t p < 256 := by
  have h0 := bitAt_le 0 (decide (t.scanned = p))
  have h1 := bitAt_le 1 (t.entry p).backgroundPending
  unfold planeByte
  omega

theorem switchByte_armed (r : ArmRecord) :
    switchByte (.armed r) =
      1 + (if r.cause = .auto then 2 else 0) + (if r.selectMoved = true then 4 else 0) + (if r.target = .B then 8 else 0) := by
  rw [switchByte, bitAt_decide, bitAt_decide]
  rfl

theorem switchByte_lt (x : Switch) : switchByte x < 256 := by
  cases x with
  | steady => decide
  | armed r =>
    have h0 := bitAt_le 0 true
    have h1 := bitAt_le 1 (decide (r.cause = .auto))
    have h2 := bitAt_le 2 r.selectMoved
    have h3 := bitAt_le 3 (decide (r.target = .B))
    change bitAt 0 true + bitAt 1 (decide (r.cause = .auto)) + bitAt 2 r.selectMoved + bitAt 3 (decide (r.target = .B)) < 256
    omega

theorem jobByte_lt (jobs : List FillJob) (j : Nat) : jobByte jobs j < 256 := by
  unfold jobByte
  split
  · decide
  · next x _ =>
    have h0 := bitAt_le 0 (decide (x.plane = .B))
    have h1 := x.kind.code_le
    omega

/-! ### The items of the image (11.4) -/

section Items
variable {s : State} (hset : s.SettingsInv)

theorem State.image_decoder (s : State) :
    byteAt s.image 0 = s.decoder.lastCommand.toNat ∧ byteAt s.image 1 = s.decoder.lastResult.code ∧
      byteAt s.image 2 = (if s.decoder.busy then 1 else 0) ∧ byteAt s.image 3 = s.front.link.code ∧
      half s.image 4 = s.decoder.taken.toNat ∧ half s.image 8 = s.status.flags.toNat ∧ half s.image 10 = s.status.mask.toNat := by
  have h := s.head_inImage
  have hbusy : bitAt 0 s.decoder.busy < 256 := (bitAt_le 0 _).trans_lt (by decide)
  exact ⟨h.word (i := 0) (by decide) rfl, h.byte (i := 1) (by decide) rfl (Result.code_lt _),
    h.byte (i := 2) (by decide) rfl hbusy, h.byte (i := 3) (by decide) rfl (LinkState.code_lt _),
    h.half (i := 4) (by decide) s.decoder.taken.isLt rfl rfl,
    h.half (i := 8) (by decide) (s.status.flags.isLt.trans (by decide)) rfl rfl,
    h.half (i := 10) (by decide) (s.status.mask.isLt.trans (by decide)) rfl rfl⟩

include hset in
theorem State.image_counters :
    half s.image 16 = s.status.counters.orphan ∧ half s.image 18 = s.status.counters.padding ∧
      half s.image 20 = s.status.counters.saturation ∧ half s.image 22 = s.status.counters.eviction ∧
      half s.image 24 = s.status.counters.clampedSamples ∧ half s.image 26 = s.status.counters.lateSwaps ∧
      half s.image 28 = s.status.counters.abandonedSwaps ∧ half s.image 30 = s.status.counters.rejectedRecords := by
  have h := s.head_inImage
  have hcount (n : Nat) (hn : n ∈ s.status.counters.toList) : n < 65536 := Nat.lt_succ_of_le (hset.counters n hn)
  exact ⟨h.half (i := 16) (by decide) (hcount _ (by simp [Counters.toList])) rfl rfl,
    h.half (i := 18) (by decide) (hcount _ (by simp [Counters.toList])) rfl rfl,
    h.half (i := 20) (by decide) (hcount _ (by simp [Counters.toList])) rfl rfl,
    h.half (i := 22) (by decide) (hcount _ (by simp [Counters.toList])) rfl rfl,
    h.half (i := 24) (by decide) (hcount _ (by simp [Counters.toList])) rfl rfl,
    h.half (i := 26) (by decide) (hcount _ (by simp [Counters.toList])) rfl rfl,
    h.half (i := 28) (by decide) (hcount _ (by simp [Counters.toList])) rfl rfl,
    h.half (i := 30) (by decide) (hcount _ (by simp [Counters.toList])) rfl rfl⟩

include hset in
theorem State.image_settings :
    byteAt s.image 0x20 = s.front.highWater ∧ byteAt s.image 0x21 = s.front.settleSetting ∧
      byteAt s.image 0x22 = s.collector.ageInterval ∧ half s.image 0x24 = s.planes.swapLimit := by
  have h := s.head_inImage
  exact ⟨h.byte (i := 0x20) (by decide) rfl (hset.mark.2.trans_lt (by decide)),
    h.byte (i := 0x21) (by decide) rfl (hset.settle.2.trans_lt (by decide)),
    h.byte (i := 0x22) (by decide) rfl (hset.age.2.trans_lt (by decide)),
    h.half (i := 0x24) (by decide) (hset.swap.2.trans_lt (by decide)) rfl rfl⟩

theorem State.image_slot (s : State) (i : Fin 8) (htag : s.layouts.slots[i].tag < 65536) :
    half s.image (0x28 + 4 * i.val) = s.layouts.slots[i].tag ∧ byteAt s.image (0x2A + 4 * i.val) = s.layouts.slots[i].code ∧
      byteAt s.image (0x2B + 4 * i.val) = 0 := by
  have h := s.slot_inImage i
  refine ⟨h.half (i := 0) (by decide) htag rfl rfl, ?_, ?_⟩
  · rw [show 0x2A + 4 * i.val = 0x28 + 4 * i.val + 2 by omega]
    exact h.byte (by decide) rfl (Slot.code_lt _)
  · rw [show 0x2B + 4 * i.val = 0x28 + 4 * i.val + 3 by omega]
    exact h.byte (by decide) rfl (by decide)

theorem planeByte_eq (t : Planes) (p : Plane) :
    planeByte t p = (if t.scanned = p then 1 else 0) + (if (t.entry p).backgroundPending then 2 else 0) := by
  rw [planeByte, bitAt_decide]
  rfl

theorem State.image_plane (s : State) (p : Plane) :
    byteAt s.image (0x48 + 2 * p.number) = bindingByte (s.planes.entry p).binding ∧
      byteAt s.image (0x49 + 2 * p.number) =
        (if s.planes.scanned = p then 1 else 0) + (if (s.planes.entry p).backgroundPending then 2 else 0) := by
  have h := s.planes_inImage
  rw [← planeByte_eq]
  cases p with
  | A => exact ⟨h.byte (i := 0) (by decide) rfl (bindingByte_lt _), h.byte (i := 1) (by decide) rfl (planeByte_lt _ _)⟩
  | B => exact ⟨h.byte (i := 2) (by decide) rfl (bindingByte_lt _), h.byte (i := 3) (by decide) rfl (planeByte_lt _ _)⟩

theorem State.image_switch (s : State) :
    byteAt s.image 0x4C = switchByte s.planes.switch ∧
      byteAt s.image 0x4D = (if s.planes.select = .B then 1 else 0) + (if s.frame.scanStopped then 2 else 0) ∧
      half s.image 0x4E = s.frame.counter.toNat := by
  have h := s.planes_inImage
  have hselect := bitAt_le 0 (decide (s.planes.select = .B))
  have hstopped := bitAt_le 1 s.frame.scanStopped
  refine ⟨h.byte (i := 4) (by decide) rfl (switchByte_lt _), (h.byte (i := 5) (by decide) rfl (by omega)).trans ?_,
    h.half (i := 6) (by decide) s.frame.counter.isLt rfl rfl⟩
  rw [bitAt_decide]
  rfl

include hset in
theorem State.image_tracker :
    (byteAt s.image 0x50 =
        (if s.tracker.sensor0.good then 1 else 0) + (if s.tracker.sensor1.good then 2 else 0) +
          (if s.tracker.pair = .disagree then 4 else 0) + (if s.pins.closedLatch then 8 else 0) ∧
      byteAt s.image 0x51 = s.tracker.mode.code ∧ byteAt s.image 0x52 = s.tracker.settled.elim 0 Posture.code ∧
      byteAt s.image 0x53 = s.tracker.candidate.elim 0 (fun c => c.1.code) ∧
      byteAt s.image 0x54 = s.tracker.candidate.elim 0 Prod.snd ∧ byteAt s.image 0x55 = s.tracker.dwell ∧
      half s.image 0x56 = s.tracker.lastFused.getD 0xFFFF) ∧
    (half s.image 0x58 = s.tracker.closedEnter ∧ half s.image 0x5A = s.tracker.closedExit ∧ half s.image 0x5C = s.tracker.openExit ∧
      half s.image 0x5E = s.tracker.openEnter ∧ half s.image 0x60 = s.tracker.agreementLimit ∧
      half s.image 0x62 = (BitVec.ofInt 16 s.tracker.sensor0.offset).toNat ∧
      half s.image 0x64 = (BitVec.ofInt 16 s.tracker.sensor1.offset).toNat ∧ byteAt s.image 0x66 = s.tracker.period ∧
      byteAt s.image 0x68 = mapByte s.tracker.map.closed ∧ byteAt s.image 0x69 = mapByte s.tracker.map.partly ∧
      byteAt s.image 0x6A = mapByte s.tracker.map.opened) := by
  have h := s.tracker_inImage
  obtain ⟨-, hthresholds, hdwell, hlimit, hperiod, hfused, -, -, hcandidate⟩ := hset.tracker
  have hsettled : s.tracker.settled.elim 0 Posture.code < 256 := by
    cases s.tracker.settled with
    | none => decide
    | some p => exact p.code_lt
  have hposture : (s.tracker.candidate.elim 0 fun c => c.1.code) < 256 := by
    cases s.tracker.candidate with
    | none => decide
    | some c => exact c.1.code_lt
  have hcount : s.tracker.candidate.elim 0 Prod.snd < 256 := by
    cases hc : s.tracker.candidate with
    | none => decide
    | some c =>
      have := (hcandidate c.1 c.2 hc).2.1
      change c.2 < 256
      omega
  have hangle : s.tracker.lastFused.getD 0xFFFF < 65536 := by
    cases ha : s.tracker.lastFused with
    | none => exact Nat.lt_succ_self _
    | some a => exact (hfused a ha).trans_lt (by decide)
  have h0 := bitAt_le 0 s.tracker.sensor0.good
  have h1 := bitAt_le 1 s.tracker.sensor1.good
  have h2 := bitAt_le 2 (decide (s.tracker.pair = .disagree))
  have h3 := bitAt_le 3 s.pins.closedLatch
  refine ⟨⟨(h.byte (i := 0) (by decide) rfl (by omega)).trans ?_, h.byte (i := 1) (by decide) rfl (TrackerMode.code_lt _),
    h.byte (i := 2) (by decide) rfl hsettled, h.byte (i := 3) (by decide) rfl hposture, h.byte (i := 4) (by decide) rfl hcount,
    h.byte (i := 5) (by decide) rfl (by omega), h.half (i := 6) (by decide) hangle rfl rfl⟩,
    h.half (i := 8) (by decide) (by omega) rfl rfl, h.half (i := 10) (by decide) (by omega) rfl rfl,
    h.half (i := 12) (by decide) (by omega) rfl rfl, h.half (i := 14) (by decide) (by omega) rfl rfl,
    h.half (i := 16) (by decide) (by omega) rfl rfl, h.half (i := 18) (by decide) (BitVec.isLt _) rfl rfl,
    h.half (i := 20) (by decide) (BitVec.isLt _) rfl rfl, h.byte (i := 22) (by decide) rfl (by omega),
    h.byte (i := 24) (by decide) rfl (mapByte_lt _), h.byte (i := 25) (by decide) rfl (mapByte_lt _),
    h.byte (i := 26) (by decide) rfl (mapByte_lt _)⟩
  rw [bitAt_decide]
  rfl

theorem jobByte_eq (jobs : List FillJob) (j : Nat) :
    jobByte jobs j = jobs[j]?.elim 0 fun x => (if x.plane = .B then 1 else 0) + 2 * x.kind.code := by
  unfold jobByte
  cases jobs[j]? with
  | none => rfl
  | some x => simp only [Option.elim, bitAt_decide, Nat.pow_zero]

theorem State.image_jobs (hplaces : s.Capacities) (hwritten : s.headWritten < 4294967296) :
    byteAt s.image 0x6C = s.fill.jobs.length ∧ byteAt s.image 0x6D = (if s.fill.paused then 1 else 0) ∧
      (∀ j < 4, byteAt s.image (0x70 + j) = jobByte s.fill.jobs j) ∧ long s.image 0x74 = s.headWritten := by
  have h := s.fill_inImage
  have hpaused : bitAt 0 s.fill.paused < 256 := (bitAt_le 0 _).trans_lt (by decide)
  refine ⟨h.byte (i := 0) (by decide) rfl (hplaces.fill.trans_lt (by decide)), h.byte (i := 1) (by decide) rfl hpaused, fun j hj => ?_, ?_⟩
  · match j, hj with
    | 0, _ => exact h.byte (i := 4) (by decide) rfl (jobByte_lt _ _)
    | 1, _ => exact h.byte (i := 5) (by decide) rfl (jobByte_lt _ _)
    | 2, _ => exact h.byte (i := 6) (by decide) rfl (jobByte_lt _ _)
    | 3, _ => exact h.byte (i := 7) (by decide) rfl (jobByte_lt _ _)
  · exact long_of_half (h.half_mod (i := 8) (by decide) rfl rfl) (h.half (i := 10) (by decide) (by omega) rfl rfl)

end Items

/-- The reserved bytes of 11.4. -/
theorem State.image_reserved (s : State) :
    ∀ k ∈ [0x06, 0x07, 0x0C, 0x0D, 0x0E, 0x0F, 0x23, 0x26, 0x27, 0x67, 0x6B, 0x6E, 0x6F, 0x78, 0x79, 0x7A, 0x7B, 0x7C, 0x7D, 0x7E, 0x7F],
      byteAt s.image k = 0 := by
  have hhead {i : Nat} (hi : i < 40) (h : s.headFields.flatten.getD i 0 = 0) : byteAt s.image (0 + i) = 0 :=
    s.head_inImage.byte hi h (by decide)
  have htracker {i : Nat} (hi : i < 28) (h : s.trackerFields.flatten.getD i 0 = 0) : byteAt s.image (0x50 + i) = 0 :=
    s.tracker_inImage.byte hi h (by decide)
  have hfill {i : Nat} (hi : i < 20) (h : s.fillFields.flatten.getD i 0 = 0) : byteAt s.image (0x6C + i) = 0 :=
    s.fill_inImage.byte hi h (by decide)
  simp only [List.forall_mem_cons, List.not_mem_nil, false_imp_iff, implies_true, and_true]
  exact ⟨hhead (i := 0x06) (by decide) rfl, hhead (i := 0x07) (by decide) rfl, hhead (i := 0x0C) (by decide) rfl,
    hhead (i := 0x0D) (by decide) rfl, hhead (i := 0x0E) (by decide) rfl, hhead (i := 0x0F) (by decide) rfl,
    hhead (i := 0x23) (by decide) rfl, hhead (i := 0x26) (by decide) rfl, hhead (i := 0x27) (by decide) rfl,
    htracker (i := 0x17) (by decide) rfl, htracker (i := 0x1B) (by decide) rfl, hfill (i := 2) (by decide) rfl,
    hfill (i := 3) (by decide) rfl, hfill (i := 12) (by decide) rfl, hfill (i := 13) (by decide) rfl, hfill (i := 14) (by decide) rfl,
    hfill (i := 15) (by decide) rfl, hfill (i := 16) (by decide) rfl, hfill (i := 17) (by decide) rfl, hfill (i := 18) (by decide) rfl,
    hfill (i := 19) (by decide) rfl⟩

/-- Settles O56: each item at its place in its part of the image, and the codes by their tables. -/
theorem statusImageFollowsTheLayout : Obligations.StatusImageFollowsTheLayout := by
  refine ⟨?image, ⟨rfl, rfl, rfl, rfl, rfl, rfl, rfl⟩, fun l remembered => ⟨rfl, rfl, rfl, rfl, rfl, rfl, rfl⟩,
    fun i => ⟨rfl, rfl, rfl, rfl⟩, rfl, switchByte_armed⟩
  intro s hset hplaces htags hjobs b h t c
  have hwritten : s.headWritten < 4294967296 := by
    unfold State.headWritten
    cases hcase : s.fill.jobs with
    | nil => exact Nat.zero_lt_succ _
    | cons job rest => exact hjobs job rest hcase
  obtain ⟨⟨hbits, hmode, hsettled, hposture, hcount, hdwell, hangle⟩, hsettings⟩ := State.image_tracker hset
  obtain ⟨hlength, hpaused, hqueue, hbeats⟩ := State.image_jobs hplaces hwritten
  obtain ⟨hswitch, hselect, hcounter⟩ := s.image_switch
  refine ⟨s.image_length, s.image_decoder, State.image_counters hset, State.image_settings hset, fun i => s.image_slot i (htags i),
    s.image_plane, hswitch, hselect, hcounter,
    ⟨hbits, hmode, hsettled.trans ?_, hposture.trans ?_, hcount.trans ?_, hdwell, hangle.trans ?_, hsettings⟩,
    ⟨hlength, hpaused, fun j hj => (hqueue j hj).trans ((jobByte_eq _ j).trans ?_), hbeats.trans ?_⟩, s.image_reserved⟩
  · cases s.tracker.settled <;> rfl
  · cases s.tracker.candidate <;> rfl
  · cases s.tracker.candidate <;> rfl
  · cases s.tracker.lastFused <;> rfl
  · cases s.fill.jobs[j]? <;> rfl
  · unfold State.headWritten
    cases s.fill.jobs <;> rfl
end Sys2Proof.Machine
end
